-- ==== Sys2Proof/Word.lean ====
section
/-!
DEFINITION. The word types of the core: 8-bit data (00_scope.md R7, R10) and 16-bit addresses
and register pairs (R7). Bit 0 is the least significant bit (R9).
-/

namespace Sys2Proof

/-- An 8-bit register value or memory/IO datum (00_scope.md R7). -/
abbrev Byte := BitVec 8

/-- A 16-bit value: PC, SP, a register pair or an address (00_scope.md R7). -/
abbrev Word := BitVec 16

/-- `{hi, lo}`: the concatenation of two bytes (00_scope.md R10). -/
abbrev Word.of (hi lo : Byte) : Word := hi ++ lo

/-- The high byte, `v[15:8]`. -/
abbrev Word.hi (v : Word) : Byte := v.extractLsb' 8 8

/-- The low byte, `v[7:0]`. -/
abbrev Word.lo (v : Word) : Byte := v.extractLsb' 0 8

end Sys2Proof
end

