-- ==== Sys2Proof/Config.lean ====
section
/-!
DEFINITION. The construction-time parameters of a core (00_scope.md R2, R7) and the constants
without a body that stand for what the spec leaves open: the free values `Draw(n)` (R14) and the
cycle counts no source gives (70_reset_and_hazards.md R528, R530).
-/

namespace Sys2Proof

/-- The CPU variant, fixed for the core's life (00_scope.md R2). I8080 and I8080A behave alike
(R3). -/
inductive Variant where
  | i8080
  | i8080a
  | i8085a
  deriving DecidableEq, Repr

/-- "8080 variants" means I8080 and I8080A (00_scope.md R2). -/
def Variant.is8080 : Variant → Bool
  | .i8080 => true
  | .i8080a => true
  | .i8085a => false

/-- IO_ADDRESS_FORM (20_memory.md R82). -/
inductive IoForm where
  | port8
  | portDuplicated
  deriving DecidableEq, Repr

/-- UNDOC_OPCODES (45_undocumented.md R420). -/
inductive UndocMode where
  | hardware
  | refuse
  deriving DecidableEq, Repr

/-- A range of program addresses that the host does not declare plain RAM (20_memory.md R87). -/
structure Window where
  base : Nat
  size : Nat
  deriving DecidableEq, Repr

/-- The interrupt sources, each with the input line of the same name (60_exceptions.md R451). -/
inductive Source where
  | trap
  | rst75
  | rst65
  | rst55
  | intr
  deriving DecidableEq, Repr

/-- The construction-time parameters (00_scope.md R7). -/
structure Config where
  /-- VARIANT (R2) -/
  variant : Variant
  /-- IO_ADDRESS_FORM (20_memory.md R82) -/
  ioForm  : IoForm
  /-- UNDOC_OPCODES (45_undocumented.md R420) -/
  undoc   : UndocMode
  /-- RESET_IM, {M7.5, M6.5, M5.5} after reset (10_state.md R53) -/
  resetIM : BitVec 3
  /-- the addresses whose reads the host's devices answer (20_memory.md R87) -/
  devices : List Window
  deriving DecidableEq, Repr

/-- The spec's default parameters for a variant: PORT8, HARDWARE, RESET_IM = 000 (00_scope.md R7),
every address plain RAM (DESIGN CHOICE, log 6). -/
def Config.ofVariant (v : Variant) : Config :=
  { variant := v, ioForm := .port8, undoc := .hardware, resetIM := 0#3, devices := [] }

/-- Is the address one the host's devices answer (20_memory.md R87)? -/
def Config.isDevice (c : Config) (a : Word) : Bool :=
  c.devices.any fun w => decide (w.base ≤ a.toNat ∧ a.toNat < w.base + w.size)

/-- The k-th free value of a run: `Draw(n)` is its low n bits (00_scope.md R14, log 7). It has no
value that a proof can see. -/
opaque Config.freeValue : Nat → BitVec 16

/-- ENTRY_CYCLES(src), informative and not given (70_reset_and_hazards.md R530). -/
opaque Config.entryCycles : Source → Nat

/-- The cycle counts of the undocumented 8085A opcodes, by opcode and by whether a conditional
one is taken: not given (70_reset_and_hazards.md R528). -/
opaque Config.undocCycles : Byte → Bool → Nat

end Sys2Proof
end

