-- ==== Sys2Proof/Syntax.lean ====
section
/-!
DEFINITION. The instructions of the core: one constructor for each instruction rule of files 40
to 45 (register, memory and immediate forms have rules, and so constructors, of their own). The
256 rows per variant of opcode_table.json are these constructors at every value of their fields.
-/

namespace Sys2Proof

/-- The registers a 3-bit field names (10_state.md R31, 30_encoding.md R122). Code 110 names the
memory byte M at HL and is no register. -/
inductive Reg where
  | b
  | c
  | d
  | e
  | h
  | l
  | a
  deriving DecidableEq, Repr

/-- The pairs of LXI, INX, DCX and DAD (30_encoding.md R123). -/
inductive Pair where
  | bc
  | de
  | hl
  | sp
  deriving DecidableEq, Repr

/-- The pairs of PUSH and POP, whose code 11 is PSW and an instruction of its own
(30_encoding.md R123, 44_stack_io_control.md R350 to R353). -/
inductive StackPair where
  | bc
  | de
  | hl
  deriving DecidableEq, Repr

/-- The pairs of LDAX and STAX (30_encoding.md R123). -/
inductive IndPair where
  | bc
  | de
  deriving DecidableEq, Repr

/-- The conditions of the conditional transfers (30_encoding.md R124, 43_branch.md R300). -/
inductive Cond where
  | nz
  | z
  | nc
  | c
  | po
  | pe
  | p
  | m
  deriving DecidableEq, Repr

/-- The instructions. -/
inductive Instr where
  -- Data transfer (40_data_transfer.md)
  /-- MOV r1,r2 (R150) -/
  | movRR (dst : Reg) (src : Reg)
  /-- MOV r,M (R151) -/
  | movRM (dst : Reg)
  /-- MOV M,r (R152) -/
  | movMR (src : Reg)
  /-- MVI r,d8 (R153) -/
  | mviR (dst : Reg) (d8 : Byte)
  /-- MVI M,d8 (R154) -/
  | mviM (d8 : Byte)
  /-- LXI rp,d16 (R155) -/
  | lxi (rp : Pair) (d16 : Word)
  /-- LDA a16 (R156) -/
  | lda (a16 : Word)
  /-- STA a16 (R157) -/
  | sta (a16 : Word)
  /-- LHLD a16 (R158) -/
  | lhld (a16 : Word)
  /-- SHLD a16 (R159) -/
  | shld (a16 : Word)
  /-- LDAX rp (R160) -/
  | ldax (rp : IndPair)
  /-- STAX rp (R161) -/
  | stax (rp : IndPair)
  /-- XCHG (R162) -/
  | xchg
  -- Arithmetic (41_arithmetic.md)
  /-- ADD r (R205) -/
  | addR (src : Reg)
  /-- ADD M (R206) -/
  | addM
  /-- ADI d8 (R207) -/
  | adi (d8 : Byte)
  /-- ADC r (R208) -/
  | adcR (src : Reg)
  /-- ADC M (R209) -/
  | adcM
  /-- ACI d8 (R210) -/
  | aci (d8 : Byte)
  /-- SUB r (R211) -/
  | subR (src : Reg)
  /-- SUB M (R212) -/
  | subM
  /-- SUI d8 (R213) -/
  | sui (d8 : Byte)
  /-- SBB r (R214) -/
  | sbbR (src : Reg)
  /-- SBB M (R215) -/
  | sbbM
  /-- SBI d8 (R216) -/
  | sbi (d8 : Byte)
  /-- INR r (R217) -/
  | inrR (dst : Reg)
  /-- INR M (R218) -/
  | inrM
  /-- DCR r (R219) -/
  | dcrR (dst : Reg)
  /-- DCR M (R220) -/
  | dcrM
  /-- INX rp (R221) -/
  | inx (rp : Pair)
  /-- DCX rp (R222) -/
  | dcx (rp : Pair)
  /-- DAD rp (R223) -/
  | dad (rp : Pair)
  /-- DAA (R224) -/
  | daa
  -- Logical, compare and rotate (42_logical.md)
  /-- ANA r (R250) -/
  | anaR (src : Reg)
  /-- ANA M (R251) -/
  | anaM
  /-- ANI d8 (R252) -/
  | ani (d8 : Byte)
  /-- XRA r (R253) -/
  | xraR (src : Reg)
  /-- XRA M (R254) -/
  | xraM
  /-- XRI d8 (R255) -/
  | xri (d8 : Byte)
  /-- ORA r (R256) -/
  | oraR (src : Reg)
  /-- ORA M (R257) -/
  | oraM
  /-- ORI d8 (R258) -/
  | ori (d8 : Byte)
  /-- CMP r (R259) -/
  | cmpR (src : Reg)
  /-- CMP M (R260) -/
  | cmpM
  /-- CPI d8 (R261) -/
  | cpi (d8 : Byte)
  /-- RLC (R262) -/
  | rlc
  /-- RRC (R263) -/
  | rrc
  /-- RAL (R264) -/
  | ral
  /-- RAR (R265) -/
  | rar
  /-- CMA (R266) -/
  | cma
  /-- CMC (R267) -/
  | cmc
  /-- STC (R268) -/
  | stc
  -- Branch (43_branch.md)
  /-- JMP a16 (R301) -/
  | jmp (a16 : Word)
  /-- JNZ a16 (R302) -/
  | jnz (a16 : Word)
  /-- JZ a16 (R303) -/
  | jz (a16 : Word)
  /-- JNC a16 (R304) -/
  | jnc (a16 : Word)
  /-- JC a16 (R305) -/
  | jc (a16 : Word)
  /-- JPO a16 (R306) -/
  | jpo (a16 : Word)
  /-- JPE a16 (R307) -/
  | jpe (a16 : Word)
  /-- JP a16 (R308) -/
  | jp (a16 : Word)
  /-- JM a16 (R309) -/
  | jm (a16 : Word)
  /-- CALL a16 (R310) -/
  | call (a16 : Word)
  /-- CNZ a16 (R311) -/
  | cnz (a16 : Word)
  /-- CZ a16 (R312) -/
  | cz (a16 : Word)
  /-- CNC a16 (R313) -/
  | cnc (a16 : Word)
  /-- CC a16 (R314) -/
  | cc (a16 : Word)
  /-- CPO a16 (R315) -/
  | cpo (a16 : Word)
  /-- CPE a16 (R316) -/
  | cpe (a16 : Word)
  /-- CP a16 (R317) -/
  | cp (a16 : Word)
  /-- CM a16 (R318) -/
  | cm (a16 : Word)
  /-- RET (R319) -/
  | ret
  /-- RNZ (R320) -/
  | rnz
  /-- RZ (R321) -/
  | rz
  /-- RNC (R322) -/
  | rnc
  /-- RC (R323) -/
  | rc
  /-- RPO (R324) -/
  | rpo
  /-- RPE (R325) -/
  | rpe
  /-- RP (R326) -/
  | rp
  /-- RM (R327) -/
  | rm
  /-- RST n (R328) -/
  | rst (n : BitVec 3)
  /-- PCHL (R329) -/
  | pchl
  -- Stack, IO and machine control (44_stack_io_control.md)
  /-- PUSH rp (R350) -/
  | push (rp : StackPair)
  /-- PUSH PSW (R351) -/
  | pushPsw
  /-- POP rp (R352) -/
  | pop (rp : StackPair)
  /-- POP PSW (R353) -/
  | popPsw
  /-- XTHL (R354) -/
  | xthl
  /-- SPHL (R355) -/
  | sphl
  /-- IN p (R356) -/
  | inPort (p8 : Byte)
  /-- OUT p (R357) -/
  | outPort (p8 : Byte)
  /-- EI (R358) -/
  | ei
  /-- DI (R359) -/
  | di
  /-- HLT (R360) -/
  | hlt
  /-- NOP (R361) -/
  | nop
  /-- RIM (I8085A) (R362) -/
  | rim
  /-- SIM (I8085A) (R363) -/
  | sim
  -- Variant-dependent (45_undocumented.md)
  /-- NOP alias 00ccc000, ccc not 000 (8080 variants) (R400) -/
  | nopAlias (ccc : BitVec 3)
  /-- JMP alias 0xCB (8080 variants) (R401) -/
  | jmpAlias (a16 : Word)
  /-- RET alias 0xD9 (8080 variants) (R402) -/
  | retAlias
  /-- CALL alias 11dd1101, dd not 00 (8080 variants) (R403) -/
  | callAlias (dd : BitVec 2) (a16 : Word)
  /-- DSUB (I8085A) (R410) -/
  | dsub
  /-- ARHL (I8085A) (R411) -/
  | arhl
  /-- RDEL (I8085A) (R412) -/
  | rdel
  /-- LDHI d8 (I8085A) (R413) -/
  | ldhi (d8 : Byte)
  /-- LDSI d8 (I8085A) (R414) -/
  | ldsi (d8 : Byte)
  /-- RSTV (I8085A) (R415) -/
  | rstv
  /-- SHLX (I8085A) (R416) -/
  | shlx
  /-- JNK a16 (I8085A) (R417) -/
  | jnk (a16 : Word)
  /-- LHLX (I8085A) (R418) -/
  | lhlx
  /-- JK a16 (I8085A) (R419) -/
  | jk (a16 : Word)
  deriving DecidableEq, Repr

end Sys2Proof
end

