-- ==== Sys2Proof/WellFormed.lean ====
section
/-!
DEFINITION. When a term of `Instr` is an instruction of a given variant: the opcode must exist
there (30_encoding.md R130) and the field bits of an alias must be among those its rule gives
(45_undocumented.md R400, R403).
-/

namespace Sys2Proof

/-- Where an instruction exists (30_encoding.md R130). -/
inductive Origin where
  /-- on every variant -/
  | always
  /-- an undocumented alias of the 8080 variants (45_undocumented.md R400 to R403) -/
  | alias8080
  /-- RIM and SIM, documented, I8085A only (44_stack_io_control.md R362, R363) -/
  | documented8085
  /-- an undocumented I8085A instruction (45_undocumented.md R410 to R419) -/
  | undocumented8085
  deriving DecidableEq, Repr

/-- The `variants` column of opcode_table.json. -/
def Instr.origin : Instr → Origin
  | .movRR .. | .movRM .. | .movMR .. | .mviR .. | .mviM .. | .lxi .. | .lda .. | .sta ..
  | .lhld .. | .shld .. | .ldax .. | .stax .. | .xchg | .addR .. | .addM | .adi .. | .adcR ..
  | .adcM | .aci .. | .subR .. | .subM | .sui .. | .sbbR .. | .sbbM | .sbi .. | .inrR ..
  | .inrM | .dcrR .. | .dcrM | .inx .. | .dcx .. | .dad .. | .daa | .anaR .. | .anaM | .ani ..
  | .xraR .. | .xraM | .xri .. | .oraR .. | .oraM | .ori .. | .cmpR .. | .cmpM | .cpi .. | .rlc
  | .rrc | .ral | .rar | .cma | .cmc | .stc | .jmp .. | .jnz .. | .jz .. | .jnc .. | .jc ..
  | .jpo .. | .jpe .. | .jp .. | .jm .. | .call .. | .cnz .. | .cz .. | .cnc .. | .cc ..
  | .cpo .. | .cpe .. | .cp .. | .cm .. | .ret | .rnz | .rz | .rnc | .rc | .rpo | .rpe | .rp
  | .rm | .rst .. | .pchl | .push .. | .pushPsw | .pop .. | .popPsw | .xthl | .sphl
  | .inPort .. | .outPort .. | .ei | .di | .hlt | .nop => .always
  | .nopAlias .. | .jmpAlias .. | .retAlias | .callAlias .. => .alias8080
  | .rim | .sim => .documented8085
  | .dsub | .arhl | .rdel | .ldhi .. | .ldsi .. | .rstv | .shlx | .jnk .. | .lhlx | .jk .. => .undocumented8085

/-- Does the variant have instructions of this origin (30_encoding.md R130)? -/
def Origin.presentOn : Origin → Variant → Bool
  | .always, _ => true
  | .alias8080, v => v.is8080
  | .documented8085, v => !v.is8080
  | .undocumented8085, v => !v.is8080

/-- The twelve 8080 entries and the ten 8085A entries that UNDOC_OPCODES = REFUSE refuses
(45_undocumented.md R420). RIM and SIM are documented. -/
def Origin.undocumented : Origin → Bool
  | .always => false
  | .alias8080 => true
  | .documented8085 => false
  | .undocumented8085 => true

/-- The field bits of a NOP alias are not 000 (45_undocumented.md R400). -/
def nopAliasField (ccc : BitVec 3) : Bool := ccc != 0#3

/-- The field bits of a CALL alias are not 00 (45_undocumented.md R403). -/
def callAliasField (dd : BitVec 2) : Bool := dd != 0#2

/-- The fields hold values the instruction's rule admits. -/
def Instr.fieldsOk : Instr → Bool
  | .nopAlias ccc => nopAliasField ccc
  | .callAlias dd _ => callAliasField dd
  | .movRR .. | .movRM .. | .movMR .. | .mviR .. | .mviM .. | .lxi .. | .lda .. | .sta ..
  | .lhld .. | .shld .. | .ldax .. | .stax .. | .xchg | .addR .. | .addM | .adi .. | .adcR ..
  | .adcM | .aci .. | .subR .. | .subM | .sui .. | .sbbR .. | .sbbM | .sbi .. | .inrR ..
  | .inrM | .dcrR .. | .dcrM | .inx .. | .dcx .. | .dad .. | .daa | .anaR .. | .anaM | .ani ..
  | .xraR .. | .xraM | .xri .. | .oraR .. | .oraM | .ori .. | .cmpR .. | .cmpM | .cpi .. | .rlc
  | .rrc | .ral | .rar | .cma | .cmc | .stc | .jmp .. | .jnz .. | .jz .. | .jnc .. | .jc ..
  | .jpo .. | .jpe .. | .jp .. | .jm .. | .call .. | .cnz .. | .cz .. | .cnc .. | .cc ..
  | .cpo .. | .cpe .. | .cp .. | .cm .. | .ret | .rnz | .rz | .rnc | .rc | .rpo | .rpe | .rp
  | .rm | .rst .. | .pchl | .push .. | .pushPsw | .pop .. | .popPsw | .xthl | .sphl
  | .inPort .. | .outPort .. | .ei | .di | .hlt | .nop | .rim | .sim | .jmpAlias .. | .retAlias
  | .dsub | .arhl | .rdel | .ldhi .. | .ldsi .. | .rstv | .shlx | .jnk .. | .lhlx | .jk .. => true

/-- The term is an instruction of the variant. -/
def Instr.wf (v : Variant) (i : Instr) : Bool := i.origin.presentOn v && i.fieldsOk

end Sys2Proof
end

