-- ==== Sys2Proof/Decode.lean ====
section
/-!
DEFINITION. The decoder and, after it, the encoder, both from 30_encoding.md (R120 to R130).
Decoding is total: every opcode byte has an instruction on every variant (R131), and the one thing
a list of bytes can lack is more bytes.
-/

namespace Sys2Proof

/-! ## Field codes -/

/-- The 3-bit register code (R122). -/
def Reg.code : Reg → BitVec 3
  | .b => 0b000#3
  | .c => 0b001#3
  | .d => 0b010#3
  | .e => 0b011#3
  | .h => 0b100#3
  | .l => 0b101#3
  | .a => 0b111#3

/-- The register a 3-bit code names; none for 110, the memory byte M (R122). -/
def Reg.ofCode (x : BitVec 3) : Option Reg :=
  match x.toNat with
  | 0 => some .b
  | 1 => some .c
  | 2 => some .d
  | 3 => some .e
  | 4 => some .h
  | 5 => some .l
  | 6 => none
  | _ => some .a

/-- The 2-bit pair code of LXI, INX, DCX and DAD (R123). -/
def Pair.code : Pair → BitVec 2
  | .bc => 0b00#2
  | .de => 0b01#2
  | .hl => 0b10#2
  | .sp => 0b11#2

/-- The pair a 2-bit code names in LXI, INX, DCX and DAD (R123). -/
def Pair.ofCode (x : BitVec 2) : Pair :=
  match x.toNat with
  | 0 => .bc
  | 1 => .de
  | 2 => .hl
  | _ => .sp

/-- The 2-bit pair code of PUSH and POP (R123). -/
def StackPair.code : StackPair → BitVec 2
  | .bc => 0b00#2
  | .de => 0b01#2
  | .hl => 0b10#2

/-- The pair a 2-bit code names in PUSH and POP; none for 11, PSW (R123). -/
def StackPair.ofCode (x : BitVec 2) : Option StackPair :=
  match x.toNat with
  | 0 => some .bc
  | 1 => some .de
  | 2 => some .hl
  | _ => none

/-- The pair code of LDAX and STAX, the bit p of 000p1010 and 000p0010 (R128). -/
def IndPair.code : IndPair → BitVec 1
  | .bc => 0b0#1
  | .de => 0b1#1

/-- The 3-bit condition code (R124). -/
def Cond.code : Cond → BitVec 3
  | .nz => 0b000#3
  | .z => 0b001#3
  | .nc => 0b010#3
  | .c => 0b011#3
  | .po => 0b100#3
  | .pe => 0b101#3
  | .p => 0b110#3
  | .m => 0b111#3

/-- The conditional jump of a condition code (R124, 43_branch.md R302 to R309). -/
def decodeJcc (ccc : BitVec 3) (a16 : Word) : Instr :=
  match ccc.toNat with
  | 0 => .jnz a16
  | 1 => .jz a16
  | 2 => .jnc a16
  | 3 => .jc a16
  | 4 => .jpo a16
  | 5 => .jpe a16
  | 6 => .jp a16
  | _ => .jm a16

/-- The conditional call of a condition code (R124, 43_branch.md R311 to R318). -/
def decodeCcc (ccc : BitVec 3) (a16 : Word) : Instr :=
  match ccc.toNat with
  | 0 => .cnz a16
  | 1 => .cz a16
  | 2 => .cnc a16
  | 3 => .cc a16
  | 4 => .cpo a16
  | 5 => .cpe a16
  | 6 => .cp a16
  | _ => .cm a16

/-- The conditional return of a condition code (R124, 43_branch.md R320 to R327). -/
def decodeRcc (ccc : BitVec 3) : Instr :=
  match ccc.toNat with
  | 0 => .rnz
  | 1 => .rz
  | 2 => .rnc
  | 3 => .rc
  | 4 => .rpo
  | 5 => .rpe
  | 6 => .rp
  | _ => .rm

/-! ## The opcode map (R129), by the fields xx yyy zzz of the opcode byte -/

/-- Opcodes 00yyy000: NOP, and seven variant-dependent opcodes (R130). -/
def decodeNopRow (v : Variant) (y : BitVec 3) (lo : Byte) : Instr :=
  match y.toNat with
  | 0 => .nop
  | 1 => if v.is8080 then .nopAlias y else .dsub
  | 2 => if v.is8080 then .nopAlias y else .arhl
  | 3 => if v.is8080 then .nopAlias y else .rdel
  | 4 => if v.is8080 then .nopAlias y else .rim
  | 5 => if v.is8080 then .nopAlias y else .ldhi lo
  | 6 => if v.is8080 then .nopAlias y else .sim
  | _ => if v.is8080 then .nopAlias y else .ldsi lo

/-- Opcodes 00yyy010: LDAX, STAX and the direct loads and stores. -/
def decodeDirectRow (y : BitVec 3) (a16 : Word) : Instr :=
  match y.toNat with
  | 0 => .stax .bc
  | 1 => .ldax .bc
  | 2 => .stax .de
  | 3 => .ldax .de
  | 4 => .shld a16
  | 5 => .lhld a16
  | 6 => .sta a16
  | _ => .lda a16

/-- Opcodes 00yyy111: rotates, DAA, CMA, STC, CMC. -/
def decodeAccRow (y : BitVec 3) : Instr :=
  match y.toNat with
  | 0 => .rlc
  | 1 => .rrc
  | 2 => .ral
  | 3 => .rar
  | 4 => .daa
  | 5 => .cma
  | 6 => .stc
  | _ => .cmc

/-- INR or its M form (R128: 00ddd100). -/
def decodeInr : Option Reg → Instr
  | some r => .inrR r
  | none => .inrM

/-- DCR or its M form (R128: 00ddd101). -/
def decodeDcr : Option Reg → Instr
  | some r => .dcrR r
  | none => .dcrM

/-- MVI or its M form (R128: 00ddd110). -/
def decodeMvi (d8 : Byte) : Option Reg → Instr
  | some r => .mviR r d8
  | none => .mviM d8

/-- Opcodes 00yyyzzz. -/
def decode00 (v : Variant) (y z : BitVec 3) (lo hi : Byte) : Instr :=
  let pp := Pair.ofCode (y.extractLsb' 1 2)
  match z.toNat with
  | 0 => decodeNopRow v y lo
  | 1 => if y.getLsbD 0 then .dad pp else .lxi pp (Word.of hi lo)
  | 2 => decodeDirectRow y (Word.of hi lo)
  | 3 => if y.getLsbD 0 then .dcx pp else .inx pp
  | 4 => decodeInr (Reg.ofCode y)
  | 5 => decodeDcr (Reg.ofCode y)
  | 6 => decodeMvi lo (Reg.ofCode y)
  | _ => decodeAccRow y

/-- Opcodes 01dddsss: MOV, and HLT at 0x76 (R129). -/
def decode01 (y z : BitVec 3) : Instr :=
  match Reg.ofCode y, Reg.ofCode z with
  | some dst, some src => .movRR dst src
  | some dst, none => .movRM dst
  | none, some src => .movMR src
  | none, none => .hlt

/-- Opcodes 10ooosss: the ALU group on a register or M (R128). -/
def decode10 (ooo sss : BitVec 3) : Instr :=
  match ooo.toNat, Reg.ofCode sss with
  | 0, some r => .addR r
  | 0, none => .addM
  | 1, some r => .adcR r
  | 1, none => .adcM
  | 2, some r => .subR r
  | 2, none => .subM
  | 3, some r => .sbbR r
  | 3, none => .sbbM
  | 4, some r => .anaR r
  | 4, none => .anaM
  | 5, some r => .xraR r
  | 5, none => .xraM
  | 6, some r => .oraR r
  | 6, none => .oraM
  | _, some r => .cmpR r
  | _, none => .cmpM

/-- Opcodes 11ooo110: the immediate ALU group (R128). -/
def decodeAluImm (ooo : BitVec 3) (d8 : Byte) : Instr :=
  match ooo.toNat with
  | 0 => .adi d8
  | 1 => .aci d8
  | 2 => .sui d8
  | 3 => .sbi d8
  | 4 => .ani d8
  | 5 => .xri d8
  | 6 => .ori d8
  | _ => .cpi d8

/-- POP or POP PSW (R123). -/
def decodePop : Option StackPair → Instr
  | some rp => .pop rp
  | none => .popPsw

/-- PUSH or PUSH PSW (R123). -/
def decodePush : Option StackPair → Instr
  | some rp => .push rp
  | none => .pushPsw

/-- Opcodes 11yyy001. -/
def decodePopRow (v : Variant) (y : BitVec 3) : Instr :=
  match y.toNat with
  | 1 => .ret
  | 3 => if v.is8080 then .retAlias else .shlx
  | 5 => .pchl
  | 7 => .sphl
  | _ => decodePop (StackPair.ofCode (y.extractLsb' 1 2))

/-- Opcodes 11yyy011. -/
def decodeMiscRow (v : Variant) (y : BitVec 3) (lo hi : Byte) : Instr :=
  match y.toNat with
  | 0 => .jmp (Word.of hi lo)
  | 1 => if v.is8080 then .jmpAlias (Word.of hi lo) else .rstv
  | 2 => .outPort lo
  | 3 => .inPort lo
  | 4 => .xthl
  | 5 => .xchg
  | 6 => .di
  | _ => .ei

/-- Opcodes 11yyy101. -/
def decodePushRow (v : Variant) (y : BitVec 3) (a16 : Word) : Instr :=
  match y.toNat with
  | 1 => .call a16
  | 3 => if v.is8080 then .callAlias 0b01#2 a16 else .jnk a16
  | 5 => if v.is8080 then .callAlias 0b10#2 a16 else .lhlx
  | 7 => if v.is8080 then .callAlias 0b11#2 a16 else .jk a16
  | _ => decodePush (StackPair.ofCode (y.extractLsb' 1 2))

/-- Opcodes 11yyyzzz. -/
def decode11 (v : Variant) (y z : BitVec 3) (lo hi : Byte) : Instr :=
  match z.toNat with
  | 0 => decodeRcc y
  | 1 => decodePopRow v y
  | 2 => decodeJcc y (Word.of hi lo)
  | 3 => decodeMiscRow v y lo hi
  | 4 => decodeCcc y (Word.of hi lo)
  | 5 => decodePushRow v y (Word.of hi lo)
  | 6 => decodeAluImm y lo
  | _ => .rst y

/-- The instruction of opcode byte `op` on a variant, with `lo` and `hi` in bytes 2 and 3 (R129,
R130; `{byte3, byte2}`, R127). Bytes beyond the instruction's length are not looked at. -/
def decodeOp (v : Variant) (op lo hi : Byte) : Instr :=
  let y := op.extractLsb' 3 3
  let z := op.extractLsb' 0 3
  match (op.extractLsb' 6 2).toNat with
  | 0 => decode00 v y z lo hi
  | 1 => decode01 y z
  | 2 => decode10 y z
  | _ => decode11 v y z lo hi

/-! ## Lengths -/

/-- An instruction is 1, 2 or 3 bytes (R120). -/
inductive Length where
  | one
  | two
  | three
  deriving DecidableEq, Repr

def Length.toNat : Length → Nat
  | .one => 1
  | .two => 2
  | .three => 3

/-- The length the opcode fixes (R121). -/
def opLength (v : Variant) (op : Byte) : Length :=
  -- MVI 00ddd110, the immediate ALU group 11ooo110, OUT, IN
  if op &&& 0xC7#8 = 0x06#8 ∨ op &&& 0xC7#8 = 0xC6#8 ∨ op = 0xD3#8 ∨ op = 0xDB#8 then .two
  -- LXI 00pp0001, SHLD, LHLD, STA, LDA, JMP, CALL, Jcc 11ccc010, Ccc 11ccc100
  else if op &&& 0xCF#8 = 0x01#8 ∨ op = 0x22#8 ∨ op = 0x2A#8 ∨ op = 0x32#8 ∨ op = 0x3A#8 ∨
      op = 0xC3#8 ∨ op = 0xCD#8 ∨ op &&& 0xC7#8 = 0xC2#8 ∨ op &&& 0xC7#8 = 0xC4#8 then .three
  else if v.is8080 then
    -- the aliases of JMP and CALL
    if op = 0xCB#8 ∨ op = 0xDD#8 ∨ op = 0xED#8 ∨ op = 0xFD#8 then .three else .one
  else
    -- LDHI, LDSI; JNK, JK
    if op = 0x28#8 ∨ op = 0x38#8 then .two
    else if op = 0xDD#8 ∨ op = 0xFD#8 then .three
    else .one

/-! ## The decoder over a list of bytes -/

/-- Why a list of bytes is no instruction: it ends too early. There is no other reason (R131). -/
inductive DecodeError where
  /-- no opcode byte -/
  | empty
  /-- the operand bytes of this opcode are missing -/
  | truncated (op : Byte)
  deriving DecidableEq, Repr

/-- Read one instruction from the front of a list of bytes: the instruction and the bytes after
it, or why there is none. -/
def decode (v : Variant) : List Byte → Except DecodeError (Instr × List Byte)
  | [] => .error .empty
  | op :: rest =>
    match opLength v op, rest with
    | .one, rest => .ok (decodeOp v op 0#8 0#8, rest)
    | .two, lo :: rest => .ok (decodeOp v op lo 0#8, rest)
    | .two, [] => .error (.truncated op)
    | .three, lo :: hi :: rest => .ok (decodeOp v op lo hi, rest)
    | .three, [_] => .error (.truncated op)
    | .three, [] => .error (.truncated op)

/-! ## The encoder -/

/-- A 1-byte opcode from its fields xx yyy zzz. -/
abbrev opXYZ (x : BitVec 2) (y z : BitVec 3) : Byte := x ++ y ++ z

/-- An opcode 00pp qqqq or 11pp qqqq (R128, format rp). -/
abbrev opPair (x pp : BitVec 2) (q : BitVec 4) : Byte := x ++ pp ++ q

/-- An instruction of 3 bytes: low byte of the operand first (R127). -/
abbrev bytes3 (op : Byte) (v : Word) : List Byte := [op, Word.lo v, Word.hi v]

/-- The bytes of an instruction, from the encoding patterns of R128 and of the instruction's own
rule. -/
def encode : Instr → List Byte
  | .movRR dst src => [opXYZ 0b01#2 dst.code src.code]
  | .movRM dst => [opXYZ 0b01#2 dst.code 0b110#3]
  | .movMR src => [opXYZ 0b01#2 0b110#3 src.code]
  | .mviR dst d8 => [opXYZ 0b00#2 dst.code 0b110#3, d8]
  | .mviM d8 => [0b00110110#8, d8]
  | .lxi rp d16 => bytes3 (opPair 0b00#2 rp.code 0b0001#4) d16
  | .lda a16 => bytes3 0b00111010#8 a16
  | .sta a16 => bytes3 0b00110010#8 a16
  | .lhld a16 => bytes3 0b00101010#8 a16
  | .shld a16 => bytes3 0b00100010#8 a16
  | .ldax rp => [0b000#3 ++ rp.code ++ 0b1010#4]
  | .stax rp => [0b000#3 ++ rp.code ++ 0b0010#4]
  | .xchg => [0b11101011#8]
  | .addR src => [opXYZ 0b10#2 0b000#3 src.code]
  | .addM => [0b10000110#8]
  | .adi d8 => [0b11000110#8, d8]
  | .adcR src => [opXYZ 0b10#2 0b001#3 src.code]
  | .adcM => [0b10001110#8]
  | .aci d8 => [0b11001110#8, d8]
  | .subR src => [opXYZ 0b10#2 0b010#3 src.code]
  | .subM => [0b10010110#8]
  | .sui d8 => [0b11010110#8, d8]
  | .sbbR src => [opXYZ 0b10#2 0b011#3 src.code]
  | .sbbM => [0b10011110#8]
  | .sbi d8 => [0b11011110#8, d8]
  | .inrR dst => [opXYZ 0b00#2 dst.code 0b100#3]
  | .inrM => [0b00110100#8]
  | .dcrR dst => [opXYZ 0b00#2 dst.code 0b101#3]
  | .dcrM => [0b00110101#8]
  | .inx rp => [opPair 0b00#2 rp.code 0b0011#4]
  | .dcx rp => [opPair 0b00#2 rp.code 0b1011#4]
  | .dad rp => [opPair 0b00#2 rp.code 0b1001#4]
  | .daa => [0b00100111#8]
  | .anaR src => [opXYZ 0b10#2 0b100#3 src.code]
  | .anaM => [0b10100110#8]
  | .ani d8 => [0b11100110#8, d8]
  | .xraR src => [opXYZ 0b10#2 0b101#3 src.code]
  | .xraM => [0b10101110#8]
  | .xri d8 => [0b11101110#8, d8]
  | .oraR src => [opXYZ 0b10#2 0b110#3 src.code]
  | .oraM => [0b10110110#8]
  | .ori d8 => [0b11110110#8, d8]
  | .cmpR src => [opXYZ 0b10#2 0b111#3 src.code]
  | .cmpM => [0b10111110#8]
  | .cpi d8 => [0b11111110#8, d8]
  | .rlc => [0b00000111#8]
  | .rrc => [0b00001111#8]
  | .ral => [0b00010111#8]
  | .rar => [0b00011111#8]
  | .cma => [0b00101111#8]
  | .cmc => [0b00111111#8]
  | .stc => [0b00110111#8]
  | .jmp a16 => bytes3 0b11000011#8 a16
  | .jnz a16 => bytes3 (opXYZ 0b11#2 Cond.nz.code 0b010#3) a16
  | .jz a16 => bytes3 (opXYZ 0b11#2 Cond.z.code 0b010#3) a16
  | .jnc a16 => bytes3 (opXYZ 0b11#2 Cond.nc.code 0b010#3) a16
  | .jc a16 => bytes3 (opXYZ 0b11#2 Cond.c.code 0b010#3) a16
  | .jpo a16 => bytes3 (opXYZ 0b11#2 Cond.po.code 0b010#3) a16
  | .jpe a16 => bytes3 (opXYZ 0b11#2 Cond.pe.code 0b010#3) a16
  | .jp a16 => bytes3 (opXYZ 0b11#2 Cond.p.code 0b010#3) a16
  | .jm a16 => bytes3 (opXYZ 0b11#2 Cond.m.code 0b010#3) a16
  | .call a16 => bytes3 0b11001101#8 a16
  | .cnz a16 => bytes3 (opXYZ 0b11#2 Cond.nz.code 0b100#3) a16
  | .cz a16 => bytes3 (opXYZ 0b11#2 Cond.z.code 0b100#3) a16
  | .cnc a16 => bytes3 (opXYZ 0b11#2 Cond.nc.code 0b100#3) a16
  | .cc a16 => bytes3 (opXYZ 0b11#2 Cond.c.code 0b100#3) a16
  | .cpo a16 => bytes3 (opXYZ 0b11#2 Cond.po.code 0b100#3) a16
  | .cpe a16 => bytes3 (opXYZ 0b11#2 Cond.pe.code 0b100#3) a16
  | .cp a16 => bytes3 (opXYZ 0b11#2 Cond.p.code 0b100#3) a16
  | .cm a16 => bytes3 (opXYZ 0b11#2 Cond.m.code 0b100#3) a16
  | .ret => [0b11001001#8]
  | .rnz => [opXYZ 0b11#2 Cond.nz.code 0b000#3]
  | .rz => [opXYZ 0b11#2 Cond.z.code 0b000#3]
  | .rnc => [opXYZ 0b11#2 Cond.nc.code 0b000#3]
  | .rc => [opXYZ 0b11#2 Cond.c.code 0b000#3]
  | .rpo => [opXYZ 0b11#2 Cond.po.code 0b000#3]
  | .rpe => [opXYZ 0b11#2 Cond.pe.code 0b000#3]
  | .rp => [opXYZ 0b11#2 Cond.p.code 0b000#3]
  | .rm => [opXYZ 0b11#2 Cond.m.code 0b000#3]
  | .rst n => [opXYZ 0b11#2 n 0b111#3]
  | .pchl => [0b11101001#8]
  | .push rp => [opPair 0b11#2 rp.code 0b0101#4]
  | .pushPsw => [0b11110101#8]
  | .pop rp => [opPair 0b11#2 rp.code 0b0001#4]
  | .popPsw => [0b11110001#8]
  | .xthl => [0b11100011#8]
  | .sphl => [0b11111001#8]
  | .inPort p8 => [0b11011011#8, p8]
  | .outPort p8 => [0b11010011#8, p8]
  | .ei => [0b11111011#8]
  | .di => [0b11110011#8]
  | .hlt => [0b01110110#8]
  | .nop => [0b00000000#8]
  | .rim => [0b00100000#8]
  | .sim => [0b00110000#8]
  | .nopAlias ccc => [opXYZ 0b00#2 ccc 0b000#3]
  | .jmpAlias a16 => bytes3 0b11001011#8 a16
  | .retAlias => [0b11011001#8]
  | .callAlias dd a16 => bytes3 (opPair 0b11#2 dd 0b1101#4) a16
  | .dsub => [0b00001000#8]
  | .arhl => [0b00010000#8]
  | .rdel => [0b00011000#8]
  | .ldhi d8 => [0b00101000#8, d8]
  | .ldsi d8 => [0b00111000#8, d8]
  | .rstv => [0b11001011#8]
  | .shlx => [0b11011001#8]
  | .jnk a16 => bytes3 0b11011101#8 a16
  | .lhlx => [0b11101101#8]
  | .jk a16 => bytes3 0b11111101#8 a16

/-! ## A row of opcode_table.json -/

/-- The three bytes of an opcode-table word: bit 0 of `w` is bit 0 of the first byte, later bytes
count on from bit 8, and every bit from `nbits` up is 0. -/
def tableBytes (nbits w : Nat) : List Byte :=
  let x := w % 2 ^ nbits
  [BitVec.ofNat 8 x, BitVec.ofNat 8 (x / 256), BitVec.ofNat 8 (x / 65536)]

/-- The instruction the decoder of an I8085A, the variant of State.reset (log 1, log 11), reads
from an opcode-table word. -/
def decodeTableWord (nbits w : Nat) : Option Instr :=
  match decode .i8085a (tableBytes nbits w) with
  | .ok (i, _) => some i
  | .error _ => none

end Sys2Proof
end

