-- ==== Sys2Proof/Machine/State.lean ====
section
/-!
DEFINITION. The state of the core and of its boundary with the host, as plain data, the reasons a
step can stop, and the state after reset. INVENTORY.md lists each field with its rule and its
reset value.
-/

namespace Sys2Proof.Machine

/-- The program address space (20_memory.md R80) as a list of (address, byte) cells in one
canonical form, `Memory.wf`: addresses strictly rising and below 65,536, no cell equal to
`unlistedByte`. -/
abbrev Memory := List Host.Cell

/-- What a byte of memory that nothing has written reads as (DESIGN CHOICE, log 5: the spec leaves
the contents of memory to the host). -/
def unlistedByte : BitVec 8 := 0x00#8

/-- What the host observes, one event for each primitive (00_scope.md R12) and callback
(60_exceptions.md R476). -/
inductive Event where
  /-- `read8` of the program space and the byte it returned -/
  | memRead (a : BitVec 16) (v : BitVec 8)
  /-- `write8` of the program space -/
  | memWrite (a : BitVec 16) (v : BitVec 8)
  /-- `read8` of the IO space -/
  | ioRead (a : BitVec 16) (v : BitVec 8)
  /-- `write8` of the IO space -/
  | ioWrite (a : BitVec 16) (v : BitVec 8)
  /-- `on_inte_changed` -/
  | inteChanged (v : Bool)
  /-- `on_sod_changed` -/
  | sodChanged (v : Bool)
  /-- `read_sid` and the bit it returned -/
  | sidRead (v : Bool)
  /-- `acknowledge_interrupt` and the bytes it returned -/
  | acknowledge (bytes : List (BitVec 8))
  deriving DecidableEq, Repr

/-- The state. -/
structure State where
  /-- construction-time parameters (00_scope.md R7), changed by nothing -/
  cfg : Config
  /-- accumulator (10_state.md R33) -/
  a : BitVec 8
  /-- general registers (10_state.md R31) -/
  b : BitVec 8
  c : BitVec 8
  d : BitVec 8
  e : BitVec 8
  h : BitVec 8
  l : BitVec 8
  /-- flags (10_state.md R34) -/
  f : BitVec 8
  /-- scratch pair (10_state.md R40) -/
  w : BitVec 8
  z : BitVec 8
  /-- program counter (10_state.md R38) -/
  pc : BitVec 16
  /-- stack pointer (10_state.md R39) -/
  sp : BitVec 16
  /-- interrupt enable (10_state.md R41) -/
  ie : Bool
  /-- interrupt mask, {M7.5, M6.5, M5.5} (10_state.md R42) -/
  im : BitVec 3
  /-- RST7.5 latch (10_state.md R43) -/
  p75 : Bool
  /-- TRAPL, the TRAP edge latch (10_state.md R45) -/
  trapLatch : Bool
  /-- input line levels (10_state.md R44) -/
  intrLine : Bool
  rst55Line : Bool
  rst65Line : Bool
  rst75Line : Bool
  trapLine : Bool
  /-- is there a TRAP mask copy that no RIM has read (10_state.md R46)? -/
  trapCopyValid : Bool
  /-- the TRAP mask copy, {IE, M7.5, M6.5, M5.5} (10_state.md R46) -/
  trapImCopy : BitVec 4
  /-- serial output line (10_state.md R47) -/
  sod : Bool
  /-- the exported register SID, last sampled or imported (10_state.md R48) -/
  sid : Bool
  /-- halted (10_state.md R49) -/
  halt : Bool
  /-- EI grace flag (10_state.md R50) -/
  eiDelay : Bool
  /-- STATUS, the last status byte (10_state.md R51) -/
  status : BitVec 8
  /-- program address space (20_memory.md R80) -/
  mem : Memory
  /-- what `read_sid` answers; none: no hook (44_stack_io_control.md R362, log 8) -/
  sidIn : Option Bool
  /-- what `acknowledge_interrupt` answers; none: no hook (60_exceptions.md R465, R466, log 8) -/
  inta : Option (List (BitVec 8))
  /-- what IO `read8` answers, by IO address; an address not listed answers a free value
  (20_memory.md R87, log 8) -/
  ioIn : List Host.Cell
  /-- what the host has observed, newest first (the model's own field, log 10) -/
  events : List Event
  /-- how many free values have been drawn (the model's own field, log 7) -/
  draws : Nat
  deriving DecidableEq, Repr

/-- There is no fault: "Execution never throws" (60_exceptions.md R450). -/
inductive Fault where
  deriving DecidableEq, Repr

/-- Why the model gives a step or a host call no meaning (00_scope.md R14). -/
inductive Refusal where
  /-- raised by `exec` for an instruction that has no meaning yet; safe -/
  | notModelled (mnemonic : String)
  /-- raised by INTR entry when the host gives no acknowledge (60_exceptions.md R466); safe -/
  | noAcknowledge
  /-- raised by INTR entry when the acknowledge is neither RST n nor CALL a16 (R466); safe -/
  | unsupportedAcknowledge
  /-- raised by `setInput` for a line the variant does not have or a level other than 0 and 1
  (R475); safe -/
  | invalidInputLine
  /-- raised by `step` at an undocumented opcode under UNDOC_OPCODES = REFUSE
  (45_undocumented.md R420); safe -/
  | undocumentedOpcode
  deriving DecidableEq, Repr

/-- What a step or a meaning answers. -/
abbrev Result := Host.Outcome State Fault Refusal

/-- The state right after reset: each field at the value of 10_state.md R53, and where R53 leaves
it to a draw or gives none, at the value log 2 to log 10 name (all DESIGN CHOICE). The variant is
the I8085A, which has every piece of the state (log 1). -/
def State.reset : State :=
  { cfg := Config.ofVariant .i8085a
    a := 0x00#8
    b := 0x00#8
    c := 0x00#8
    d := 0x00#8
    e := 0x00#8
    h := 0x00#8
    l := 0x00#8
    f := 0x00#8
    w := 0x00#8
    z := 0x00#8
    pc := 0x0000#16
    sp := 0x0000#16
    ie := false
    im := 0b000#3
    p75 := false
    trapLatch := false
    intrLine := false
    rst55Line := false
    rst65Line := false
    rst75Line := false
    trapLine := false
    trapCopyValid := false
    trapImCopy := 0b0000#4
    sod := false
    sid := false
    halt := false
    eiDelay := false
    status := 0x00#8
    mem := []
    sidIn := none
    inta := none
    ioIn := []
    events := []
    draws := 0 }

end Sys2Proof.Machine
end

