-- ==== Sys2Proof/Machine/Flags.lean ====
section
/-!
DEFINITION. The flags register and every flag computation, as functions on bytes: the layout of
10_state.md R34, the tables of R54, the helpers of 41_arithmetic.md R200 to R203 and R224, and the
conditions of 43_branch.md R300.
-/

namespace Sys2Proof.Machine

/-! ## The layout of F (10_state.md R34) -/

def flagS (f : Byte) : Bool := f.getLsbD 7
def flagZ (f : Byte) : Bool := f.getLsbD 6
def flagK (f : Byte) : Bool := f.getLsbD 5
def flagAC (f : Byte) : Bool := f.getLsbD 4
def flagX3 (f : Byte) : Bool := f.getLsbD 3
def flagP (f : Byte) : Bool := f.getLsbD 2
def flagV (f : Byte) : Bool := f.getLsbD 1
def flagCY (f : Byte) : Bool := f.getLsbD 0

/-- A byte with the bit of a one-bit mask replaced. -/
def putBit (f mask : Byte) (v : Bool) : Byte := (f &&& ~~~mask) ||| (if v then mask else 0x00#8)

def putS (v : Bool) (f : Byte) : Byte := putBit f 0x80#8 v
def putZ (v : Bool) (f : Byte) : Byte := putBit f 0x40#8 v
def putAC (v : Bool) (f : Byte) : Byte := putBit f 0x10#8 v
def putP (v : Bool) (f : Byte) : Byte := putBit f 0x04#8 v
def putCY (v : Bool) (f : Byte) : Byte := putBit f 0x01#8 v

/-- The mask of the five documented flags: bits 7, 6, 4, 2, 0. -/
abbrev documentedBits : Byte := 0xD5#8

/-- The three undocumented bits, {x[2], x[1], x[0]} at bits 5, 3, 1. -/
def undocBits (x : BitVec 3) : Byte :=
  0b00#2 ++ x.extractLsb' 2 1 ++ 0b0#1 ++ x.extractLsb' 1 1 ++ 0b0#1 ++ x.extractLsb' 0 1 ++ 0b0#1

/-- F with bits 5, 3, 1 replaced. -/
def putUndoc (x : BitVec 3) (f : Byte) : Byte := (f &&& documentedBits) ||| undocBits x

/-- Bits 5 and 3 are 0 and bit 1 is 1 on the 8080 variants (10_state.md R35). -/
abbrev fixed8080 : BitVec 3 := 0b001#3

/-! ## Result flags -/

/-- The number of 1 bits (00_scope.md R10). -/
def popcount (v : Byte) : Nat :=
  (v.getLsbD 0).toNat + (v.getLsbD 1).toNat + (v.getLsbD 2).toNat + (v.getLsbD 3).toNat +
  (v.getLsbD 4).toNat + (v.getLsbD 5).toNat + (v.getLsbD 6).toNat + (v.getLsbD 7).toNat

/-- The zero/sign table (10_state.md R54). -/
def zs (v : Byte) : Byte :=
  (if v = 0x00#8 then 0x40#8 else 0x00#8) ||| (if v.getLsbD 7 then 0x80#8 else 0x00#8)

/-- The zero/sign/parity table (10_state.md R54). -/
def zsp (v : Byte) : Byte := zs v ||| (if popcount v % 2 = 0 then 0x04#8 else 0x00#8)

/-- SetSZP: the S, Z and P bits of F replaced by `ZSP[res]` (41_arithmetic.md R200). -/
def setSZP (res f : Byte) : Byte := (f &&& 0x3B#8) ||| zsp res

/-! ## Arithmetic -/

/-- A result with its carry and auxiliary carry. -/
structure AluOut where
  res : Byte
  cy : Bool
  ac : Bool
  deriving DecidableEq, Repr

/-- Add8 (41_arithmetic.md R201). -/
def add8 (x y : Byte) (cin : Bool) : AluOut :=
  let sum := x.toNat + y.toNat + cin.toNat
  { res := BitVec.ofNat 8 sum
    cy := decide (sum > 0xFF)
    ac := decide ((x &&& 0x0F#8).toNat + (y &&& 0x0F#8).toNat + cin.toNat > 0x0F) }

/-- Sub8 (41_arithmetic.md R202): CY is a borrow, AC the carry of the complement addition. -/
def sub8 (x y : Byte) (bin : Bool) : AluOut :=
  let diff : Int := (x.toNat : Int) - (y.toNat : Int) - (bin.toNat : Int)
  { res := BitVec.ofInt 8 diff
    cy := decide (diff < 0)
    ac := decide ((x &&& 0x0F#8).toNat + (~~~y &&& 0x0F#8).toNat + (1 - bin.toNat) > 0x0F) }

/-- The correction, result and carries of DAA (41_arithmetic.md R224). -/
def daa8 (x : Byte) (cy ac : Bool) : AluOut :=
  let low := if ac ∨ (x &&& 0x0F#8).toNat > 9 then 0x06#8 else 0x00#8
  let high := if cy ∨ x.toNat > 0x99 then 0x60#8 else 0x00#8
  let corr := low ||| high
  { res := x + corr
    cy := cy || decide (x.toNat > 0x99)
    ac := decide ((x &&& 0x0F#8).toNat + (corr &&& 0x0F#8).toNat > 0x0F) }

/-- F after an arithmetic result that writes S, Z, AC, P and CY, before FixF. -/
def aluFlags (o : AluOut) (f : Byte) : Byte := putAC o.ac (putCY o.cy (setSZP o.res f))

/-- The auxiliary carry of ANA and ANI: bit 3 of (A OR operand) on the 8080 variants, 1 on the
I8085A (42_logical.md R250). -/
def andAC (v : Variant) (x y : Byte) : Bool :=
  if v.is8080 then (x ||| y).getLsbD 3 else true

/-! ## Conditions -/

/-- `cond(ccc)` on F (43_branch.md R300). -/
def condHolds (cc : Cond) (f : Byte) : Bool :=
  match cc with
  | .nz => !flagZ f
  | .z => flagZ f
  | .nc => !flagCY f
  | .c => flagCY f
  | .po => !flagP f
  | .pe => flagP f
  | .p => !flagS f
  | .m => flagS f

end Sys2Proof.Machine
end

