-- ==== Sys2Proof/Machine/Mem.lean ====
section
/-!
DEFINITION. Reading and writing one byte of the canonical cell list (20_memory.md R80), and the
canonical form.
-/

namespace Sys2Proof.Machine

/-- The cells are strictly rising from `lo` up, below 65,536, and none holds `unlistedByte`. -/
def Memory.wfFrom : Nat → Memory → Bool
  | _, [] => true
  | lo, (a, v) :: m => decide (lo ≤ a) && decide (a < 65536) && (v != unlistedByte) && Memory.wfFrom (a + 1) m

/-- The canonical form: equal memories are equal lists. -/
def Memory.wf (m : Memory) : Bool := Memory.wfFrom 0 m

/-- The byte at an address. -/
def Memory.read (x : Nat) : Memory → BitVec 8
  | [] => unlistedByte
  | (a, v) :: m => if x = a then v else Memory.read x m

/-- Memory with a byte written; writing `unlistedByte` removes the cell. -/
def Memory.write (x : Nat) (u : BitVec 8) : Memory → Memory
  | [] => if u = unlistedByte then [] else [(x, u)]
  | (a, v) :: m =>
    if x < a then (if u = unlistedByte then (a, v) :: m else (x, u) :: (a, v) :: m)
    else if x = a then (if u = unlistedByte then m else (x, u) :: m)
    else (a, v) :: Memory.write x u m

/-- The value a table of cells lists for an address. -/
def lookupCell (x : Nat) : List Host.Cell → Option (BitVec 8)
  | [] => none
  | (a, v) :: m => if x = a then some v else lookupCell x m

end Sys2Proof.Machine
end

