-- ==== Sys2Proof/Machine/Operands.lean ====
section
/-!
DEFINITION. Registers and register pairs by name (10_state.md R31, R32, 00_scope.md R11): the one
place that reads or writes a register an instruction names.
-/

namespace Sys2Proof.Machine

/-- `r[x]`. -/
def State.reg (s : State) : Reg → Byte
  | .b => s.b
  | .c => s.c
  | .d => s.d
  | .e => s.e
  | .h => s.h
  | .l => s.l
  | .a => s.a

/-- `r[x] <- v`. -/
def State.setReg (s : State) (r : Reg) (v : Byte) : State :=
  match r with
  | .b => { s with b := v }
  | .c => { s with c := v }
  | .d => { s with d := v }
  | .e => { s with e := v }
  | .h => { s with h := v }
  | .l => { s with l := v }
  | .a => { s with a := v }

/-- `rp[BC]`. -/
abbrev State.bc (s : State) : Word := Word.of s.b s.c
/-- `rp[DE]`. -/
abbrev State.de (s : State) : Word := Word.of s.d s.e
/-- `rp[HL]`. -/
abbrev State.hl (s : State) : Word := Word.of s.h s.l
/-- `{A, F}`, the PSW. -/
abbrev State.psw (s : State) : Word := Word.of s.a s.f

/-- `rp[DE] <- v`. -/
def State.setDE (s : State) (v : Word) : State := { s with d := Word.hi v, e := Word.lo v }

/-- `rp[HL] <- v`. -/
def State.setHL (s : State) (v : Word) : State := { s with h := Word.hi v, l := Word.lo v }

/-- `rp[pp]`, or SP for code 11 (30_encoding.md R123). -/
def State.pair (s : State) : Pair → Word
  | .bc => s.bc
  | .de => s.de
  | .hl => s.hl
  | .sp => s.sp

/-- `rp[pp] <- v`, or `SP <- v` for code 11. -/
def State.setPair (s : State) (rp : Pair) (v : Word) : State :=
  match rp with
  | .bc => { s with b := Word.hi v, c := Word.lo v }
  | .de => { s with d := Word.hi v, e := Word.lo v }
  | .hl => { s with h := Word.hi v, l := Word.lo v }
  | .sp => { s with sp := v }

/-- The pairs of PUSH and POP as general pairs. -/
def pairOfStack : StackPair → Pair
  | .bc => .bc
  | .de => .de
  | .hl => .hl

/-- The pairs of LDAX and STAX as general pairs. -/
def pairOfInd : IndPair → Pair
  | .bc => .bc
  | .de => .de

end Sys2Proof.Machine
end

