-- ==== Sys2Proof/Machine/Ops.lean ====
section
/-!
DEFINITION. The shared operations: free values, host events, memory and IO accesses, fetch, the
stack, FixF, the interrupt-enable and SOD writes, arbitration, taking an interrupt and returning
from one. An operation that reads answers the value and the state after the read.
-/

namespace Sys2Proof.Machine

/-! ## Free values and events -/

/-- `Draw(n)`, n at most 16: the next free value, and the state in which it is spent
(00_scope.md R14, log 7). -/
def draw (n : Nat) (s : State) : BitVec n × State :=
  ((Config.freeValue s.draws).setWidth n, { s with draws := s.draws + 1 })

/-- The host observes an event (00_scope.md R12, log 10). -/
def State.log (s : State) (ev : Event) : State := { s with events := ev :: s.events }

/-! ## Memory and IO (20_memory.md) -/

/-- The byte a host `read8` answers: the last byte written where the host declares plain RAM, a
free value at a device address (R87, log 6). -/
def readValue (x : Word) (s : State) : Byte :=
  if s.cfg.isDevice x then (draw 8 s).1 else s.mem.read x.toNat

/-- `MemRead(x, 1)` (00_scope.md R12). -/
def memRead (x : Word) (s : State) : Byte × State :=
  (readValue x s,
    { s with
      draws := if s.cfg.isDevice x then s.draws + 1 else s.draws
      events := .memRead x (readValue x s) :: s.events })

/-- `MemWrite(x, 1, v)` (00_scope.md R12). A device address keeps no byte (log 6). -/
def memWrite (x : Word) (v : Byte) (s : State) : State :=
  { s with
    mem := if s.cfg.isDevice x then s.mem else s.mem.write x.toNat v
    events := .memWrite x v :: s.events }

/-- `MemRead16(x)`: the byte at x first, then the byte at x + 1 mod 2^16 (20_memory.md R84). -/
def memRead16 (x : Word) (s : State) : Word × State :=
  let lo := memRead x s
  let hi := memRead (x + 1#16) lo.2
  (Word.of hi.1 lo.1, hi.2)

/-- `MemWrite16(x, v)`: the low byte at x first, then the high byte at x + 1 mod 2^16
(20_memory.md R84). -/
def memWrite16 (x v : Word) (s : State) : State :=
  memWrite (x + 1#16) (Word.hi v) (memWrite x (Word.lo v) s)

/-- The M operand: the memory byte at HL (10_state.md R32). -/
def readM (s : State) : Byte × State := memRead s.hl s

/-- Write the M operand. -/
def writeM (v : Byte) (s : State) : State := memWrite s.hl v s

/-- `ioaddr(p)` (20_memory.md R82). -/
def ioAddr (form : IoForm) (p : Byte) : Word :=
  match form with
  | .port8 => Word.of 0x00#8 p
  | .portDuplicated => Word.of p p

/-- The byte the host's IO function answers, a free value where `ioIn` lists nothing
(20_memory.md R87, log 8). -/
def ioValue (x : Word) (s : State) : Byte := (lookupCell x.toNat s.ioIn).getD (draw 8 s).1

/-- `IORead(x)` (20_memory.md R81). -/
def ioRead (x : Word) (s : State) : Byte × State :=
  (ioValue x s,
    { s with
      draws := if (lookupCell x.toNat s.ioIn).isSome then s.draws else s.draws + 1
      events := .ioRead x (ioValue x s) :: s.events })

/-- `IOWrite(x, v)` (20_memory.md R81). -/
def ioWrite (x : Word) (v : Byte) (s : State) : State := s.log (.ioWrite x v)

/-- The bit `read_sid()` answers, a free bit when the host gives no hook
(44_stack_io_control.md R362). -/
def sidValue (s : State) : Bool := s.sidIn.getD ((draw 1 s).1.getLsbD 0)

/-- `read_sid()`. Without a hook no call is made. The exported SID register reports the bit
(10_state.md R48, log 8). -/
def readSid (s : State) : Bool × State :=
  (sidValue s,
    { s with
      sid := sidValue s
      draws := if s.sidIn.isSome then s.draws else s.draws + 1
      events := if s.sidIn.isSome then .sidRead (sidValue s) :: s.events else s.events })

/-! ## Fetch (00_scope.md R13) -/

/-- `Fetch8()`. -/
def fetch8 (s : State) : Byte × State :=
  let r := memRead s.pc s
  (r.1, { r.2 with pc := s.pc + 1#16 })

/-- `Fetch16()`: the low byte first. The scratch pair stages the operand (10_state.md R30,
log 3: DEDUCED). -/
def fetch16 (s : State) : Word × State :=
  let lo := fetch8 s
  let hi := fetch8 lo.2
  (Word.of hi.1 lo.1, { hi.2 with w := hi.1, z := lo.1 })

/-- Fetch one instruction whole: all its bytes before any data access (20_memory.md R91), PC left
at the byte after it (10_state.md R38). -/
def fetchInstr (s : State) : Instr × State :=
  let op := fetch8 s
  match opLength s.cfg.variant op.1 with
  | .one => (decodeOp s.cfg.variant op.1 0x00#8 0x00#8, op.2)
  | .two =>
    let v := fetch8 op.2
    (decodeOp s.cfg.variant op.1 v.1 0x00#8, v.2)
  | .three =>
    let v := fetch16 op.2
    (decodeOp s.cfg.variant op.1 (Word.lo v.1) (Word.hi v.1), v.2)

/-! ## The stack (20_memory.md R95) -/

/-- `Push16(v)`: high byte at SP - 1, low byte at SP - 2. -/
def push16 (v : Word) (s : State) : State :=
  let s1 := memWrite (s.sp - 1#16) (Word.hi v) { s with sp := s.sp - 1#16 }
  memWrite (s.sp - 2#16) (Word.lo v) { s1 with sp := s.sp - 2#16 }

/-- `Pop16()`: low byte at SP, high byte at SP + 1. -/
def pop16 (s : State) : Word × State :=
  let lo := memRead s.sp s
  let hi := memRead (s.sp + 1#16) { lo.2 with sp := s.sp + 1#16 }
  (Word.of hi.1 lo.1, { hi.2 with sp := s.sp + 2#16 })

/-- A call: push PC and go to the target (43_branch.md R330). -/
def callTo (target : Word) (s : State) : State := { push16 s.pc s with pc := target }

/-- A return: PC is popped (43_branch.md R330). It is also the return from an interrupt, which
restores nothing else (60_exceptions.md R467). -/
def returnPC (s : State) : State :=
  let r := pop16 s
  { r.2 with pc := r.1 }

/-! ## Flags in the state -/

/-- The three undocumented bits FixF gives F: their fixed values on the 8080 variants
(10_state.md R35), a fresh `Draw(3)` on the I8085A (R36, log 12). -/
def undocValue (s : State) : BitVec 3 :=
  if s.cfg.variant.is8080 then fixed8080 else (draw 3 s).1

/-- FixF (41_arithmetic.md R203). -/
def fixF (s : State) : State :=
  { s with
    f := putUndoc (undocValue s) s.f
    draws := if s.cfg.variant.is8080 then s.draws else s.draws + 1 }

/-- Put a value into A and write S, Z, AC, P, CY from it, then FixF (41_arithmetic.md R205). -/
def aluToA (o : AluOut) (s : State) : State := fixF { s with a := o.res, f := aluFlags o s.f }

/-- ADD and ADC of a value (41_arithmetic.md R205, R208). -/
def addA (v : Byte) (cin : Bool) (s : State) : State := aluToA (add8 s.a v cin) s

/-- SUB and SBB of a value (41_arithmetic.md R211, R214). -/
def subA (v : Byte) (bin : Bool) (s : State) : State := aluToA (sub8 s.a v bin) s

/-- CMP of a value: the flags of SUB, A kept (42_logical.md R259). -/
def cmpA (v : Byte) (s : State) : State := fixF { s with f := aluFlags (sub8 s.a v false) s.f }

/-- ANA of a value (42_logical.md R250). -/
def anaA (v : Byte) (s : State) : State :=
  aluToA { res := s.a &&& v, cy := false, ac := andAC s.cfg.variant s.a v } s

/-- XRA of a value (42_logical.md R253). -/
def xraA (v : Byte) (s : State) : State := aluToA { res := s.a ^^^ v, cy := false, ac := false } s

/-- ORA of a value (42_logical.md R256). -/
def oraA (v : Byte) (s : State) : State := aluToA { res := s.a ||| v, cy := false, ac := false } s

/-- The flags of INR: S, Z, P from the result, AC from the old value, CY kept
(41_arithmetic.md R217). -/
def inrFlags (old : Byte) (s : State) : State :=
  fixF { s with f := putAC (decide (old &&& 0x0F#8 = 0x0F#8)) (setSZP (old + 1#8) s.f) }

/-- The flags of DCR (41_arithmetic.md R219). -/
def dcrFlags (old : Byte) (s : State) : State :=
  fixF { s with f := putAC (decide (old &&& 0x0F#8 ≠ 0x00#8)) (setSZP (old - 1#8) s.f) }

/-- Put a value into A and write CY only, then FixF (42_logical.md R262). -/
def rotateA (res : Byte) (cy : Bool) (s : State) : State :=
  fixF { s with a := res, f := putCY cy s.f }

/-- Write CY only, then FixF (42_logical.md R267). -/
def setCarry (cy : Bool) (s : State) : State := fixF { s with f := putCY cy s.f }

/-! ## Control transfer -/

/-- A conditional jump (43_branch.md R302 to R309). -/
def jumpIf (cc : Cond) (a16 : Word) (s : State) : State :=
  if condHolds cc s.f then { s with pc := a16 } else s

/-- A conditional call (43_branch.md R311 to R318). -/
def callIf (cc : Cond) (a16 : Word) (s : State) : State :=
  if condHolds cc s.f then callTo a16 s else s

/-- A conditional return (43_branch.md R320 to R327). -/
def returnIf (cc : Cond) (s : State) : State :=
  if condHolds cc s.f then returnPC s else s

/-! ## Interrupt and serial state -/

/-- Write IE; each write fires `on_inte_changed` (10_state.md R41). -/
def setIE (v : Bool) (s : State) : State := { s with ie := v, events := .inteChanged v :: s.events }

/-- Write SOD; each write fires `on_sod_changed` (10_state.md R47). -/
def setSOD (v : Bool) (s : State) : State := { s with sod := v, events := .sodChanged v :: s.events }

/-- The mask bits of IM; 1 blocks the line (10_state.md R42). -/
abbrev State.m75 (s : State) : Bool := s.im.getLsbD 2
abbrev State.m65 (s : State) : Bool := s.im.getLsbD 1
abbrev State.m55 (s : State) : Bool := s.im.getLsbD 0

/-- `{IE, M7.5, M6.5, M5.5}`. -/
abbrev State.ieIm (s : State) : BitVec 4 := BitVec.ofBool s.ie ++ s.im

/-! ## Arbitration (60_exceptions.md R458) -/

/-- INTR, the lowest priority, on every variant. -/
def arbitrateIntr (s : State) : Option Source :=
  if s.ie && s.intrLine then some .intr else none

/-- The first source whose condition holds, or none. -/
def arbitrate (s : State) : Option Source :=
  if s.cfg.variant.is8080 then arbitrateIntr s
  else if s.trapLatch then some .trap
  else if s.ie && s.p75 && !s.m75 then some .rst75
  else if s.ie && s.rst65Line && !s.m65 then some .rst65
  else if s.ie && s.rst55Line && !s.m55 then some .rst55
  else arbitrateIntr s

/-! ## Taking an interrupt -/

/-- The common entry (60_exceptions.md R460). -/
def enterCommon (s : State) : State := { setIE false s with halt := false }

/-- The target of an acknowledge: RST n or CALL a16, none for any other bytes
(60_exceptions.md R465, R466). -/
def ackTarget : List Byte → Option Word
  | [op] => if op &&& 0xC7#8 = 0xC7#8 then some (Word.of 0x00#8 (op &&& 0x38#8)) else none
  | [op, lo, hi] => if op = 0xCD#8 then some (Word.of hi lo) else none
  | _ => none

/-- TRAP entry after the common part; `saved` is {IE, M7.5, M6.5, M5.5} as it was before it
(60_exceptions.md R461). -/
def enterTrap (saved : BitVec 4) (s : State) : State :=
  { callTo 0x0024#16 { s with trapImCopy := saved, trapCopyValid := true } with trapLatch := false }

/-- RST7.5 entry after the common part (60_exceptions.md R462). -/
def enterRst75 (s : State) : State := { callTo 0x003C#16 s with p75 := false }

/-- INTR entry after the common part (60_exceptions.md R465, R466). -/
def enterIntr (s : State) : Result :=
  match s.inta with
  | none => .refused .noAcknowledge
  | some bytes =>
    match ackTarget bytes with
    | none => .refused .unsupportedAcknowledge
    | some target => .next (callTo target (s.log (.acknowledge bytes)))

/-- `enter(src)`: take the interrupt of a source (60_exceptions.md R460 to R466). -/
def enter (src : Source) (s : State) : Result :=
  let t := enterCommon s
  match src with
  | .trap => .next (enterTrap s.ieIm t)
  | .rst75 => .next (enterRst75 t)
  | .rst65 => .next (callTo 0x0034#16 t)
  | .rst55 => .next (callTo 0x002C#16 t)
  | .intr => enterIntr t

/-! ## Around an instruction -/

/-- The machine cycles of a step synthesize STATUS; its value is not fixed (10_state.md R51,
60_exceptions.md R476, log 4). -/
def synthStatus (s : State) : State :=
  let r := draw 8 s
  { r.2 with status := r.1 }

/-- Does UNDOC_OPCODES refuse the instruction (45_undocumented.md R420)? -/
def refusesOpcode (c : Config) (i : Instr) : Bool :=
  match c.undoc with
  | .hardware => false
  | .refuse => i.origin.undocumented

end Sys2Proof.Machine
end

