-- ==== Sys2Proof/Machine/Arithmetic.lean ====
section
/-!
DEFINITION. The meanings of the arithmetic group (41_arithmetic.md).
A meaning runs with every byte of its instruction fetched and PC after them (20_memory.md R91).
-/

namespace Sys2Proof.Machine

/-- ADD r (R205). -/
def execAddR (src : Reg) (s : State) : Result :=
  .next (addA (s.reg src) false s)

/-- ADD M (R206). -/
def execAddM (s : State) : Result :=
  let r := readM s
  .next (addA r.1 false r.2)

/-- ADI d8 (R207). -/
def execAdi (d8 : Byte) (s : State) : Result :=
  .next (addA d8 false s)

/-- ADC r (R208). -/
def execAdcR (src : Reg) (s : State) : Result :=
  .next (addA (s.reg src) (flagCY s.f) s)

/-- ADC M (R209). -/
def execAdcM (s : State) : Result :=
  let r := readM s
  .next (addA r.1 (flagCY s.f) r.2)

/-- ACI d8 (R210). -/
def execAci (d8 : Byte) (s : State) : Result :=
  .next (addA d8 (flagCY s.f) s)

/-- SUB r (R211). -/
def execSubR (src : Reg) (s : State) : Result :=
  .next (subA (s.reg src) false s)

/-- SUB M (R212). -/
def execSubM (s : State) : Result :=
  let r := readM s
  .next (subA r.1 false r.2)

/-- SUI d8 (R213). -/
def execSui (d8 : Byte) (s : State) : Result :=
  .next (subA d8 false s)

/-- SBB r (R214). -/
def execSbbR (src : Reg) (s : State) : Result :=
  .next (subA (s.reg src) (flagCY s.f) s)

/-- SBB M (R215). -/
def execSbbM (s : State) : Result :=
  let r := readM s
  .next (subA r.1 (flagCY s.f) r.2)

/-- SBI d8 (R216). -/
def execSbi (d8 : Byte) (s : State) : Result :=
  .next (subA d8 (flagCY s.f) s)

/-- INR r (R217). -/
def execInrR (dst : Reg) (s : State) : Result :=
  .next (inrFlags (s.reg dst) (s.setReg dst (s.reg dst + 1#8)))

/-- INR M (R218). -/
def execInrM (s : State) : Result :=
  let r := readM s
  .next (inrFlags r.1 (writeM (r.1 + 1#8) r.2))

/-- DCR r (R219). -/
def execDcrR (dst : Reg) (s : State) : Result :=
  .next (dcrFlags (s.reg dst) (s.setReg dst (s.reg dst - 1#8)))

/-- DCR M (R220). -/
def execDcrM (s : State) : Result :=
  let r := readM s
  .next (dcrFlags r.1 (writeM (r.1 - 1#8) r.2))

/-- INX rp (R221). -/
def execInx (rp : Pair) (s : State) : Result :=
  .next (fixF (s.setPair rp (s.pair rp + 1#16)))

/-- DCX rp (R222). -/
def execDcx (rp : Pair) (s : State) : Result :=
  .next (fixF (s.setPair rp (s.pair rp - 1#16)))

/-- DAD rp (R223). -/
def execDad (rp : Pair) (s : State) : Result :=
  let sum := s.hl.toNat + (s.pair rp).toNat
  .next (setCarry (decide (sum > 0xFFFF)) (s.setHL (BitVec.ofNat 16 sum)))

/-- DAA (R224). -/
def execDaa (s : State) : Result :=
  .next (aluToA (daa8 s.a (flagCY s.f) (flagAC s.f)) s)

end Sys2Proof.Machine
end

