-- ==== Sys2Proof/Machine/Branch.lean ====
section
/-!
DEFINITION. The meanings of the branch group (43_branch.md). No instruction here writes a flag.
A meaning runs with every byte of its instruction fetched and PC after them (20_memory.md R91).
-/

namespace Sys2Proof.Machine

/-- JMP a16 (R301). -/
def execJmp (a16 : Word) (s : State) : Result :=
  .next { s with pc := a16 }

/-- JNZ a16 (R302). -/
def execJnz (a16 : Word) (s : State) : Result :=
  .next (jumpIf .nz a16 s)

/-- JZ a16 (R303). -/
def execJz (a16 : Word) (s : State) : Result :=
  .next (jumpIf .z a16 s)

/-- JNC a16 (R304). -/
def execJnc (a16 : Word) (s : State) : Result :=
  .next (jumpIf .nc a16 s)

/-- JC a16 (R305). -/
def execJc (a16 : Word) (s : State) : Result :=
  .next (jumpIf .c a16 s)

/-- JPO a16 (R306). -/
def execJpo (a16 : Word) (s : State) : Result :=
  .next (jumpIf .po a16 s)

/-- JPE a16 (R307). -/
def execJpe (a16 : Word) (s : State) : Result :=
  .next (jumpIf .pe a16 s)

/-- JP a16 (R308). -/
def execJp (a16 : Word) (s : State) : Result :=
  .next (jumpIf .p a16 s)

/-- JM a16 (R309). -/
def execJm (a16 : Word) (s : State) : Result :=
  .next (jumpIf .m a16 s)

/-- CALL a16 (R310). -/
def execCall (a16 : Word) (s : State) : Result :=
  .next (callTo a16 s)

/-- CNZ a16 (R311). -/
def execCnz (a16 : Word) (s : State) : Result :=
  .next (callIf .nz a16 s)

/-- CZ a16 (R312). -/
def execCz (a16 : Word) (s : State) : Result :=
  .next (callIf .z a16 s)

/-- CNC a16 (R313). -/
def execCnc (a16 : Word) (s : State) : Result :=
  .next (callIf .nc a16 s)

/-- CC a16 (R314). -/
def execCc (a16 : Word) (s : State) : Result :=
  .next (callIf .c a16 s)

/-- CPO a16 (R315). -/
def execCpo (a16 : Word) (s : State) : Result :=
  .next (callIf .po a16 s)

/-- CPE a16 (R316). -/
def execCpe (a16 : Word) (s : State) : Result :=
  .next (callIf .pe a16 s)

/-- CP a16 (R317). -/
def execCp (a16 : Word) (s : State) : Result :=
  .next (callIf .p a16 s)

/-- CM a16 (R318). -/
def execCm (a16 : Word) (s : State) : Result :=
  .next (callIf .m a16 s)

/-- RET (R319). -/
def execRet (s : State) : Result :=
  .next (returnPC s)

/-- RNZ (R320). -/
def execRnz (s : State) : Result :=
  .next (returnIf .nz s)

/-- RZ (R321). -/
def execRz (s : State) : Result :=
  .next (returnIf .z s)

/-- RNC (R322). -/
def execRnc (s : State) : Result :=
  .next (returnIf .nc s)

/-- RC (R323). -/
def execRc (s : State) : Result :=
  .next (returnIf .c s)

/-- RPO (R324). -/
def execRpo (s : State) : Result :=
  .next (returnIf .po s)

/-- RPE (R325). -/
def execRpe (s : State) : Result :=
  .next (returnIf .pe s)

/-- RP (R326). -/
def execRp (s : State) : Result :=
  .next (returnIf .p s)

/-- RM (R327). -/
def execRm (s : State) : Result :=
  .next (returnIf .m s)

/-- RST n (R328). -/
def execRst (n : BitVec 3) (s : State) : Result :=
  .next (callTo (n.setWidth 16 <<< 3) s)

/-- PCHL (R329). -/
def execPchl (s : State) : Result :=
  .next { s with pc := s.hl }

end Sys2Proof.Machine
end

