-- ==== Sys2Proof/Machine/DataTransfer.lean ====
section
/-!
DEFINITION. The meanings of the data transfer group (40_data_transfer.md). No instruction here writes a flag.
A meaning runs with every byte of its instruction fetched and PC after them (20_memory.md R91).
-/

namespace Sys2Proof.Machine

/-- MOV r1,r2 (R150). -/
def execMovRR (dst : Reg) (src : Reg) (s : State) : Result :=
  .next (s.setReg dst (s.reg src))

/-- MOV r,M (R151). -/
def execMovRM (dst : Reg) (s : State) : Result :=
  let r := readM s
  .next (r.2.setReg dst r.1)

/-- MOV M,r (R152). -/
def execMovMR (src : Reg) (s : State) : Result :=
  .next (writeM (s.reg src) s)

/-- MVI r,d8 (R153). -/
def execMviR (dst : Reg) (d8 : Byte) (s : State) : Result :=
  .next (s.setReg dst d8)

/-- MVI M,d8 (R154). -/
def execMviM (d8 : Byte) (s : State) : Result :=
  .next (writeM d8 s)

/-- LXI rp,d16 (R155). -/
def execLxi (rp : Pair) (d16 : Word) (s : State) : Result :=
  .next (s.setPair rp d16)

/-- LDA a16 (R156). -/
def execLda (a16 : Word) (s : State) : Result :=
  let r := memRead a16 s
  .next { r.2 with a := r.1 }

/-- STA a16 (R157). -/
def execSta (a16 : Word) (s : State) : Result :=
  .next (memWrite a16 s.a s)

/-- LHLD a16 (R158). -/
def execLhld (a16 : Word) (s : State) : Result :=
  let r := memRead16 a16 s
  .next (r.2.setHL r.1)

/-- SHLD a16 (R159). -/
def execShld (a16 : Word) (s : State) : Result :=
  .next (memWrite16 a16 s.hl s)

/-- LDAX rp (R160). -/
def execLdax (rp : IndPair) (s : State) : Result :=
  let r := memRead (s.pair (pairOfInd rp)) s
  .next { r.2 with a := r.1 }

/-- STAX rp (R161). -/
def execStax (rp : IndPair) (s : State) : Result :=
  .next (memWrite (s.pair (pairOfInd rp)) s.a s)

/-- XCHG (R162). -/
def execXchg (s : State) : Result :=
  .next { s with d := s.h, e := s.l, h := s.d, l := s.e }

end Sys2Proof.Machine
end

