-- ==== Sys2Proof/Machine/Logical.lean ====
section
/-!
DEFINITION. The meanings of the logical, compare and rotate group (42_logical.md).
A meaning runs with every byte of its instruction fetched and PC after them (20_memory.md R91).
-/

namespace Sys2Proof.Machine

/-- ANA r (R250). -/
def execAnaR (src : Reg) (s : State) : Result :=
  .next (anaA (s.reg src) s)

/-- ANA M (R251). -/
def execAnaM (s : State) : Result :=
  let r := readM s
  .next (anaA r.1 r.2)

/-- ANI d8 (R252). -/
def execAni (d8 : Byte) (s : State) : Result :=
  .next (anaA d8 s)

/-- XRA r (R253). -/
def execXraR (src : Reg) (s : State) : Result :=
  .next (xraA (s.reg src) s)

/-- XRA M (R254). -/
def execXraM (s : State) : Result :=
  let r := readM s
  .next (xraA r.1 r.2)

/-- XRI d8 (R255). -/
def execXri (d8 : Byte) (s : State) : Result :=
  .next (xraA d8 s)

/-- ORA r (R256). -/
def execOraR (src : Reg) (s : State) : Result :=
  .next (oraA (s.reg src) s)

/-- ORA M (R257). -/
def execOraM (s : State) : Result :=
  let r := readM s
  .next (oraA r.1 r.2)

/-- ORI d8 (R258). -/
def execOri (d8 : Byte) (s : State) : Result :=
  .next (oraA d8 s)

/-- CMP r (R259). -/
def execCmpR (src : Reg) (s : State) : Result :=
  .next (cmpA (s.reg src) s)

/-- CMP M (R260). -/
def execCmpM (s : State) : Result :=
  let r := readM s
  .next (cmpA r.1 r.2)

/-- CPI d8 (R261). -/
def execCpi (d8 : Byte) (s : State) : Result :=
  .next (cmpA d8 s)

/-- RLC (R262). -/
def execRlc (s : State) : Result :=
  .next (rotateA ((s.a <<< 1) ||| BitVec.setWidth 8 (BitVec.ofBool (s.a.getLsbD 7))) (s.a.getLsbD 7) s)

/-- RRC (R263). -/
def execRrc (s : State) : Result :=
  .next (rotateA ((s.a >>> 1) ||| (BitVec.setWidth 8 (BitVec.ofBool (s.a.getLsbD 0)) <<< 7)) (s.a.getLsbD 0) s)

/-- RAL (R264). -/
def execRal (s : State) : Result :=
  .next (rotateA ((s.a <<< 1) ||| BitVec.setWidth 8 (BitVec.ofBool (flagCY s.f))) (s.a.getLsbD 7) s)

/-- RAR (R265). -/
def execRar (s : State) : Result :=
  .next (rotateA ((s.a >>> 1) ||| (BitVec.setWidth 8 (BitVec.ofBool (flagCY s.f)) <<< 7)) (s.a.getLsbD 0) s)

/-- CMA (R266). -/
def execCma (s : State) : Result :=
  .next { s with a := ~~~s.a }

/-- CMC (R267). -/
def execCmc (s : State) : Result :=
  .next (setCarry (!flagCY s.f) s)

/-- STC (R268). -/
def execStc (s : State) : Result :=
  .next (setCarry true s)

end Sys2Proof.Machine
end

