-- ==== Sys2Proof/Machine/StackIoControl.lean ====
section
/-!
DEFINITION. The meanings of the stack, IO and machine-control group (44_stack_io_control.md).
A meaning runs with every byte of its instruction fetched and PC after them (20_memory.md R91).
-/

namespace Sys2Proof.Machine

/-- RIM (R362): SID, P75 and the RST6.5 and RST5.5 levels in bits 7 to 4; below them the TRAP
mask copy if no RIM has read it yet, which this RIM spends, else the live {IE, M7.5, M6.5, M5.5}. -/
def readMasks (s : State) : State :=
  let r := readSid s
  let low := if s.trapCopyValid then s.trapImCopy else s.ieIm
  { r.2 with
    a := BitVec.ofBool r.1 ++ BitVec.ofBool s.p75 ++ BitVec.ofBool s.rst65Line ++
      BitVec.ofBool s.rst55Line ++ low
    trapCopyValid := false }

/-- SIM bit 3, mask-set enable: the masks take bits 2 to 0 (R363). -/
def simMasks (x : Byte) (s : State) : State :=
  if x.getLsbD 3 then { s with im := x.extractLsb' 0 3 } else s

/-- SIM bit 4 clears the RST7.5 latch (R363). -/
def simLatch (x : Byte) (s : State) : State :=
  if x.getLsbD 4 then { s with p75 := false } else s

/-- SIM bit 6, serial-output enable: SOD takes bit 7 (R363). -/
def simSod (x : Byte) (s : State) : State :=
  if x.getLsbD 6 then setSOD (x.getLsbD 7) s else s

/-- PUSH rp (R350). -/
def execPush (rp : StackPair) (s : State) : Result :=
  .next (push16 (s.pair (pairOfStack rp)) s)

/-- PUSH PSW (R351). -/
def execPushPsw (s : State) : Result :=
  .next (push16 s.psw s)

/-- POP rp (R352). -/
def execPop (rp : StackPair) (s : State) : Result :=
  let r := pop16 s
  .next (r.2.setPair (pairOfStack rp) r.1)

/-- POP PSW (R353). -/
def execPopPsw (s : State) : Result :=
  let r := pop16 s
  .next (fixF { r.2 with a := Word.hi r.1, f := Word.lo r.1 })

/-- XTHL (R354). -/
def execXthl (s : State) : Result :=
  let r := memRead16 s.sp s
  let t := memWrite s.sp s.l (memWrite (s.sp + 1#16) s.h r.2)
  .next (t.setHL r.1)

/-- SPHL (R355). -/
def execSphl (s : State) : Result :=
  .next { s with sp := s.hl }

/-- IN p (R356). -/
def execInPort (p8 : Byte) (s : State) : Result :=
  let r := ioRead (ioAddr s.cfg.ioForm p8) s
  .next { r.2 with a := r.1 }

/-- OUT p (R357). -/
def execOutPort (p8 : Byte) (s : State) : Result :=
  .next (ioWrite (ioAddr s.cfg.ioForm p8) s.a s)

/-- EI (R358). -/
def execEi (s : State) : Result :=
  .next (setIE true { s with eiDelay := true })

/-- DI (R359). -/
def execDi (s : State) : Result :=
  .next (setIE false s)

/-- HLT (R360). -/
def execHlt (s : State) : Result :=
  .next { s with halt := true }

/-- NOP (R361). -/
def execNop (s : State) : Result :=
  .next s

/-- RIM (I8085A) (R362). -/
def execRim (s : State) : Result :=
  .next (readMasks s)

/-- SIM (I8085A) (R363). -/
def execSim (s : State) : Result :=
  .next (simSod s.a (simLatch s.a (simMasks s.a s)))

end Sys2Proof.Machine
end

