-- ==== Sys2Proof/Machine/Undocumented.lean ====
section
/-!
DEFINITION. The meanings of the variant-dependent opcodes (45_undocumented.md): the aliases of the 8080
variants and the ten undocumented I8085A instructions.
A meaning runs with every byte of its instruction fetched and PC after them (20_memory.md R91).
-/

namespace Sys2Proof.Machine

/-- The flags of DSUB from the exact difference (R410): CY the borrow, Z and S of the 16-bit
result, AC and P free values, and the undocumented bits by FixF, drawn in that order (log 13). -/
def dsubFlags (q : Int) (s : State) : State :=
  let res := BitVec.ofInt 16 q
  let ac := draw 1 s
  let p := draw 1 ac.2
  fixF { p.2 with
    f := putP (p.1.getLsbD 0) (putAC (ac.1.getLsbD 0)
      (putS (res.getLsbD 15) (putZ (decide (res = 0#16)) (putCY (decide (q < 0)) s.f)))) }

/-- NOP alias 00ccc000, ccc not 000 (8080 variants) (R400). -/
def execNopAlias (_ccc : BitVec 3) (s : State) : Result :=
  .next s

/-- JMP alias 0xCB (8080 variants) (R401). -/
def execJmpAlias (a16 : Word) (s : State) : Result :=
  .next { s with pc := a16 }

/-- RET alias 0xD9 (8080 variants) (R402). -/
def execRetAlias (s : State) : Result :=
  .next (returnPC s)

/-- CALL alias 11dd1101, dd not 00 (8080 variants) (R403). -/
def execCallAlias (_dd : BitVec 2) (a16 : Word) (s : State) : Result :=
  .next (callTo a16 s)

/-- DSUB (I8085A) (R410). -/
def execDsub (s : State) : Result :=
  let q : Int := (s.hl.toNat : Int) - (s.bc.toNat : Int)
  .next (dsubFlags q (s.setHL (BitVec.ofInt 16 q)))

/-- ARHL (I8085A) (R411). -/
def execArhl (s : State) : Result :=
  .next (setCarry (s.l.getLsbD 0) (s.setHL (BitVec.ofBool (s.h.getLsbD 7) ++ s.hl.extractLsb' 1 15)))

/-- RDEL (I8085A) (R412). -/
def execRdel (s : State) : Result :=
  .next (setCarry (s.d.getLsbD 7) (s.setDE (s.de.extractLsb' 0 15 ++ BitVec.ofBool (flagCY s.f))))

/-- LDHI d8 (I8085A) (R413). -/
def execLdhi (d8 : Byte) (s : State) : Result :=
  .next (s.setDE (s.hl + d8.setWidth 16))

/-- LDSI d8 (I8085A) (R414). -/
def execLdsi (d8 : Byte) (s : State) : Result :=
  .next (s.setDE (s.sp + d8.setWidth 16))

/-- RSTV (I8085A) (R415). -/
def execRstv (s : State) : Result :=
  .next (if flagV s.f then callTo 0x0040#16 s else s)

/-- SHLX (I8085A) (R416). -/
def execShlx (s : State) : Result :=
  .next (memWrite16 s.de s.hl s)

/-- JNK a16 (I8085A) (R417). -/
def execJnk (a16 : Word) (s : State) : Result :=
  .next (if flagK s.f then s else { s with pc := a16 })

/-- LHLX (I8085A) (R418). -/
def execLhlx (s : State) : Result :=
  let r := memRead16 s.de s
  .next (r.2.setHL r.1)

/-- JK a16 (I8085A) (R419). -/
def execJk (a16 : Word) (s : State) : Result :=
  .next (if flagK s.f then { s with pc := a16 } else s)

end Sys2Proof.Machine
end

