-- ==== Sys2Proof/Machine/Step.lean ====
section
/-!
DEFINITION. The step (60_exceptions.md R457) and the placing of an instruction where the step
fetches its next one.
-/

namespace Sys2Proof.Machine

/-- Past the arbitration point: idle while halted, else fetch one instruction and run it. -/
def fetchAndRun (s : State) : Host.Outcome State Fault Refusal :=
  if s.halt then .next s
  else
    let r := fetchInstr (synthStatus s)
    if refusesOpcode s.cfg r.1 then .refused .undocumentedOpcode else exec r.1 r.2

/-- One step (R457): the EI grace period skips the arbitration point (R459); an interrupt entry is
a whole step; else one instruction, or an idle step. -/
def step (s : State) : Host.Outcome State Fault Refusal :=
  if s.eiDelay then fetchAndRun { s with eiDelay := false }
  else
    match arbitrate s with
    | some src => enter src (synthStatus s)
    | none => fetchAndRun s

/-- Three bytes of memory replaced at x, x + 1, x + 2 mod 2^16. -/
def Memory.place (x : Word) (b0 b1 b2 : Byte) (m : Memory) : Memory :=
  ((m.write x.toNat b0).write (x + 1#16).toNat b1).write (x + 2#16).toNat b2

/-- The state with an opcode-table word stored at PC, so that the next step runs it: the core is
not halted, and where an interrupt would be taken first the grace flag holds it back for that one
step (log 11). -/
def State.withFetchWord (s : State) (nbits w : Nat) : State :=
  let x := w % 2 ^ nbits
  { s with
    mem := s.mem.place s.pc (BitVec.ofNat 8 x) (BitVec.ofNat 8 (x / 256)) (BitVec.ofNat 8 (x / 65536))
    halt := false
    eiDelay := s.eiDelay || (arbitrate s).isSome }

end Sys2Proof.Machine
end

