-- ==== Sys2Proof/Machine/HostInterface.lean ====
section
/-!
DEFINITION. What the host does to the core between steps: the reset operation
(70_reset_and_hazards.md R520), input lines (60_exceptions.md R452) and the named registers
(10_state.md R55).
-/

namespace Sys2Proof.Machine

/-! ## Reset -/

/-- The draws of a reset: the registers it leaves at some value (10_state.md R53, R56). -/
structure ResetDraws where
  a : Byte
  b : Byte
  c : Byte
  d : Byte
  e : Byte
  h : Byte
  l : Byte
  f : Byte
  sp : Word
  deriving DecidableEq, Repr

/-- F as a reset or an import of the value leaves it: bits 5, 3, 1 forced on the 8080 variants
(10_state.md R35). -/
def forceF (v : Variant) (f : Byte) : Byte := if v.is8080 then putUndoc fixed8080 f else f

/-- `reset()` (R520). Memory, the input lines, the parameters and what the host answers are left
alone (R521); W, Z, STATUS and SID, to which R520 gives no value, keep theirs (log 3, log 4,
log 8). -/
def hostReset (x : ResetDraws) (s : State) : State :=
  let t := setIE false
    { s with
      pc := 0x0000#16
      sp := x.sp
      a := x.a
      b := x.b
      c := x.c
      d := x.d
      e := x.e
      h := x.h
      l := x.l
      f := forceF s.cfg.variant x.f }
  let u := setSOD false
    { t with
      im := s.cfg.resetIM
      halt := false
      p75 := false
      trapLatch := false
      trapCopyValid := false
      trapImCopy := 0b0000#4 }
  { u with eiDelay := false }

/-! ## Input lines -/

/-- Is the line of a source present on the variant (60_exceptions.md R451)? -/
def linePresent (v : Variant) : Source → Bool
  | .trap => !v.is8080
  | .rst75 => !v.is8080
  | .rst65 => !v.is8080
  | .rst55 => !v.is8080
  | .intr => true

/-- Drive a line to a level; a rising edge of TRAP or RST7.5 sets its latch
(60_exceptions.md R452, R453, R454). -/
def driveLine (line : Source) (level : Bool) (s : State) : State :=
  match line with
  | .trap => { s with trapLine := level, trapLatch := s.trapLatch || (!s.trapLine && level) }
  | .rst75 => { s with rst75Line := level, p75 := s.p75 || (!s.rst75Line && level) }
  | .rst65 => { s with rst65Line := level }
  | .rst55 => { s with rst55Line := level }
  | .intr => { s with intrLine := level }

/-- `execute_set_input(line, level)` (60_exceptions.md R452, R475). -/
def setInput (line : Source) (level : Nat) (s : State) : Result :=
  if linePresent s.cfg.variant line then
    match level with
    | 0 => .next (driveLine line false s)
    | 1 => .next (driveLine line true s)
    | _ => .refused .invalidInputLine
  else .refused .invalidInputLine

/-! ## Named registers -/

/-- The registers the host can export and import (10_state.md R55). -/
inductive NamedReg where
  | pc
  | sp
  | af
  | bc
  | de
  | hl
  | half (r : Reg)
  | f
  | status
  | sod
  | sid
  | inte
  | halt
  | im
  deriving DecidableEq, Repr

/-- A bit as a 16-bit value. -/
abbrev bitWord (v : Bool) : Word := (BitVec.ofBool v).setWidth 16

/-- The current value of a named register (10_state.md R55), zero-extended. SOD, SID and IM exist on
the I8085A only (R52); the spec does not say what their export answers on an 8080 variant, and
there the model answers the idle field, 0, 0 and RESET_IM (DESIGN CHOICE, log 15, log 22). -/
def exportReg (s : State) : NamedReg → Word
  | .pc => s.pc
  | .sp => s.sp
  | .af => s.psw
  | .bc => s.bc
  | .de => s.de
  | .hl => s.hl
  | .half r => (s.reg r).setWidth 16
  | .f => s.f.setWidth 16
  | .status => s.status.setWidth 16
  | .sod => bitWord s.sod
  | .sid => bitWord s.sid
  | .inte => bitWord s.ie
  | .halt => bitWord s.halt
  | .im => s.im.setWidth 16

/-- Write a named register: its low bits take the value (log 15). SOD, SID and IM exist on the
I8085A only (10_state.md R52) and an 8080 variant ignores their import (log 15). -/
def importReg (r : NamedReg) (v : Word) (s : State) : State :=
  match r with
  | .pc => { s with pc := v }
  | .sp => { s with sp := v }
  | .af => { s with a := Word.hi v, f := forceF s.cfg.variant (Word.lo v) }
  | .bc => s.setPair .bc v
  | .de => s.setPair .de v
  | .hl => s.setPair .hl v
  | .half x => s.setReg x (Word.lo v)
  | .f => { s with f := forceF s.cfg.variant (Word.lo v) }
  | .status => { s with status := Word.lo v }
  | .sod => if s.cfg.variant.is8080 then s else setSOD (v.getLsbD 0) s
  | .sid => if s.cfg.variant.is8080 then s else { s with sid := v.getLsbD 0 }
  | .inte => setIE (v.getLsbD 0) s
  | .halt => { s with halt := v.getLsbD 0 }
  | .im => if s.cfg.variant.is8080 then s else { s with im := v.extractLsb' 0 3 }

end Sys2Proof.Machine
end

