-- ==== Sys2Proof/Machine/Run.lean ====
section
/-!
DEFINITION. The informative timing: the cycle tables (70_reset_and_hazards.md R528 to R530) and
`run(cycle_budget)` (R524). No meaning reads them.
-/

namespace Sys2Proof.Machine

/-- The column of a variant. -/
def pick (v : Variant) (n8080 n8085 : Nat) : Nat := if v.is8080 then n8080 else n8085

/-- The cycle count of an instruction; `taken` says whether a conditional one is taken (R528). -/
def cycles (v : Variant) (i : Instr) (taken : Bool) : Nat :=
  match i with
  | .movRR .. => pick v 5 4
  | .movRM .. | .movMR .. | .mviR .. | .ldax .. | .stax .. => 7
  | .mviM .. | .lxi .. | .inrM | .dcrM | .dad .. | .jmp .. | .jmpAlias .. | .ret | .retAlias
  | .pop .. | .popPsw | .inPort .. | .outPort .. => 10
  | .lda .. | .sta .. => 13
  | .lhld .. | .shld .. => 16
  | .xchg | .daa | .rlc | .rrc | .ral | .rar | .cma | .cmc | .stc | .ei | .di | .nop
  | .nopAlias .. | .rim | .sim => 4
  | .addR .. | .adcR .. | .subR .. | .sbbR .. | .anaR .. | .xraR .. | .oraR .. | .cmpR .. => 4
  | .addM | .adcM | .subM | .sbbM | .anaM | .xraM | .oraM | .cmpM | .adi .. | .aci .. | .sui ..
  | .sbi .. | .ani .. | .xri .. | .ori .. | .cpi .. => 7
  | .inrR .. | .dcrR .. => pick v 5 4
  | .inx .. | .dcx .. => pick v 5 6
  | .jnz .. | .jz .. | .jnc .. | .jc .. | .jpo .. | .jpe .. | .jp .. | .jm .. => pick v 10 (if taken then 10 else 7)
  | .call .. | .callAlias .. => pick v 17 18
  | .cnz .. | .cz .. | .cnc .. | .cc .. | .cpo .. | .cpe .. | .cp .. | .cm .. => if taken then pick v 17 18 else pick v 11 9
  | .rnz | .rz | .rnc | .rc | .rpo | .rpe | .rp | .rm => if taken then pick v 11 12 else pick v 5 6
  | .rst .. | .push .. | .pushPsw => pick v 11 12
  | .pchl | .sphl => pick v 5 6
  | .xthl => pick v 18 16
  | .hlt => pick v 7 5
  | .dsub => Config.undocCycles 0x08#8 taken
  | .arhl => Config.undocCycles 0x10#8 taken
  | .rdel => Config.undocCycles 0x18#8 taken
  | .ldhi .. => Config.undocCycles 0x28#8 taken
  | .ldsi .. => Config.undocCycles 0x38#8 taken
  | .rstv => Config.undocCycles 0xCB#8 taken
  | .shlx => Config.undocCycles 0xD9#8 taken
  | .jnk .. => Config.undocCycles 0xDD#8 taken
  | .lhlx => Config.undocCycles 0xED#8 taken
  | .jk .. => Config.undocCycles 0xFD#8 taken

/-- Whether a conditional instruction is taken in a state; true for every other instruction. -/
def isTaken (i : Instr) (s : State) : Bool :=
  match i with
  | .jnz _ | .cnz _ | .rnz => condHolds .nz s.f
  | .jz _ | .cz _ | .rz => condHolds .z s.f
  | .jnc _ | .cnc _ | .rnc => condHolds .nc s.f
  | .jc _ | .cc _ | .rc => condHolds .c s.f
  | .jpo _ | .cpo _ | .rpo => condHolds .po s.f
  | .jpe _ | .cpe _ | .rpe => condHolds .pe s.f
  | .jp _ | .cp _ | .rp => condHolds .p s.f
  | .jm _ | .cm _ | .rm => condHolds .m s.f
  | .rstv => flagV s.f
  | .jnk _ => !flagK s.f
  | .jk _ => flagK s.f
  | .movRR .. | .movRM .. | .movMR .. | .mviR .. | .mviM .. | .lxi .. | .lda .. | .sta ..
  | .lhld .. | .shld .. | .ldax .. | .stax .. | .xchg | .addR .. | .addM | .adi .. | .adcR ..
  | .adcM | .aci .. | .subR .. | .subM | .sui .. | .sbbR .. | .sbbM | .sbi .. | .inrR ..
  | .inrM | .dcrR .. | .dcrM | .inx .. | .dcx .. | .dad .. | .daa | .anaR .. | .anaM | .ani ..
  | .xraR .. | .xraM | .xri .. | .oraR .. | .oraM | .ori .. | .cmpR .. | .cmpM | .cpi .. | .rlc
  | .rrc | .ral | .rar | .cma | .cmc | .stc | .jmp .. | .call .. | .ret | .rst .. | .pchl
  | .push .. | .pushPsw | .pop .. | .popPsw | .xthl | .sphl | .inPort .. | .outPort .. | .ei
  | .di | .hlt | .nop | .rim | .sim | .nopAlias .. | .jmpAlias .. | .retAlias | .callAlias ..
  | .dsub | .arhl | .rdel | .ldhi .. | .ldsi .. | .shlx | .lhlx => true

/-- Clocks per cycle (R529). -/
def clocksPerCycle (v : Variant) : Nat := pick v 1 2

/-- The cost of the part of a step past the arbitration point: an idle step costs the remaining
budget (R524). -/
def fetchCost (remaining : Nat) (s : State) : Nat :=
  if s.halt then remaining
  else
    let r := fetchInstr (synthStatus s)
    cycles s.cfg.variant r.1 (isTaken r.1 r.2)

/-- The cost of the next step (R524). -/
def stepCost (remaining : Nat) (s : State) : Nat :=
  if s.eiDelay then fetchCost remaining s
  else
    match arbitrate s with
    | some src => Config.entryCycles src
    | none => fetchCost remaining s

/-- `run(cycle_budget)` (R524): steps while budget remains, the overshoot of the last step not
carried. `fuel` bounds the number of steps, since an entry's cost is not given (log 20). -/
def run : Nat → Nat → State → Result
  | 0, _, s => .next s
  | _ + 1, 0, s => .next s
  | fuel + 1, budget + 1, s =>
    match step s with
    | .next t => run fuel (budget + 1 - stepCost (budget + 1) s) t
    | .fault r => .fault r
    | .refused r => .refused r

end Sys2Proof.Machine
end

