-- ==== Sys2Proof/Safety.lean ====
section
/-!
DEFINITION. The invariant of the core, and what counts as a safe run.
-/

namespace Sys2Proof.Machine

/-- The state only the I8085A has is idle: what R52 of 10_state.md says an 8080 variant does not
hold stays as reset leaves it. -/
abbrev State.Quiet8085 (s : State) : Prop :=
  s.im = s.cfg.resetIM ∧ s.p75 = false ∧ s.trapLatch = false ∧ s.rst55Line = false ∧
  s.rst65Line = false ∧ s.rst75Line = false ∧ s.trapLine = false ∧ s.trapCopyValid = false ∧
  s.trapImCopy = 0b0000#4 ∧ s.sod = false ∧ s.sid = false

/-- The invariant: memory is in canonical form; on the 8080 variants F has bit 1 set and bits 5
and 3 clear (10_state.md R35), and the 8085A-only state is idle (R52). -/
abbrev State.Inv (s : State) : Prop :=
  s.mem.wf = true ∧
  (s.cfg.variant.is8080 = true →
    (flagK s.f = false ∧ flagX3 s.f = false ∧ flagV s.f = true) ∧ s.Quiet8085)

/-- The host's acknowledge, if an INTR can be taken, is one of the admitted forms
(60_exceptions.md R465). -/
abbrev State.AcknowledgeAdmitted (s : State) : Prop :=
  ∃ bytes, s.inta = some bytes ∧ (ackTarget bytes).isSome = true

/-- A run of n steps completes: no step of it faults or is refused. -/
def RunsSafely (n : Nat) (s : State) : Prop := ∃ t, Host.Core.run Sys2Proof.core n s = .next t

end Sys2Proof.Machine
end

