-- ==== Sys2Proof/Certificates/Slice0/Obligations.lean ====
section
/-!
DEFINITION. The statements for the provers. Each says what a numbered rule of spec/ says, over
every state and operand; `Sys2Proof.Claims` holds the words they share. A frame is an equation
`t = { s with … }` that names every field the instruction may change.
-/

namespace Sys2Proof.Claims

open Sys2Proof Sys2Proof.Machine

/-! ## Flags -/

/-- The number of 1 bits of a byte is even. -/
def evenOnes (v : Byte) : Bool := decide (((List.range 8).filter fun k => v.getLsbD k).length % 2 = 0)

/-- S, Z and P of an 8-bit result (41_arithmetic.md R200). -/
def ResultFlags (f res : Byte) : Prop :=
  f.getLsbD 7 = res.getLsbD 7 ∧ f.getLsbD 6 = decide (res.toNat = 0) ∧ f.getLsbD 2 = evenOnes res

/-- Bits 5, 3, 1 of F after FixF in state s: fixed on the 8080 variants, the next free value on
the I8085A (41_arithmetic.md R203, 10_state.md R35, R36). It holds whatever the free value is; the
count `draws` is the model's form of `Draw(3)` (log 7). -/
def UndocAfter (s t : State) : Prop :=
  (s.cfg.variant ≠ .i8085a →
    t.f.getLsbD 5 = false ∧ t.f.getLsbD 3 = false ∧ t.f.getLsbD 1 = true ∧ t.draws = s.draws) ∧
  (s.cfg.variant = .i8085a →
    t.f.getLsbD 5 = (Config.freeValue s.draws).getLsbD 2 ∧
    t.f.getLsbD 3 = (Config.freeValue s.draws).getLsbD 1 ∧
    t.f.getLsbD 1 = (Config.freeValue s.draws).getLsbD 0 ∧ t.draws = s.draws + 1)

/-- S, Z, AC and P of F are as before. -/
def KeepsSZAP (s t : State) : Prop :=
  t.f.getLsbD 7 = s.f.getLsbD 7 ∧ t.f.getLsbD 6 = s.f.getLsbD 6 ∧
  t.f.getLsbD 4 = s.f.getLsbD 4 ∧ t.f.getLsbD 2 = s.f.getLsbD 2

/-! ## Memory -/

/-- What one `read8` of address x answers in state s, and the count of free values after it: the
stored byte in plain RAM, a free value at a device address (20_memory.md R87). -/
def Loaded (s : State) (x : Word) (v : Byte) (n : Nat) : Prop :=
  (s.cfg.isDevice x = false → v = s.mem.read x.toNat ∧ n = s.draws) ∧
  (s.cfg.isDevice x = true → v = (Config.freeValue s.draws).setWidth 8 ∧ n = s.draws + 1)

/-- Two reads, the low byte at x and then the high byte at x + 1 (20_memory.md R84). -/
def Loaded2 (s : State) (x : Word) (v : Word) (n : Nat) : Prop :=
  ∃ m, Loaded s x (Word.lo v) m ∧ Loaded { s with draws := m } (x + 1#16) (Word.hi v) n

/-- The events of those two reads, newest first. -/
def loaded2Events (x v : Word) : List Event :=
  [.memRead (x + 1#16) (Word.hi v), .memRead x (Word.lo v)]

/-- Memory after one byte v is stored at address x: that byte where x is plain RAM, and every byte
at another address as before. -/
def Stored (s t : State) (x : Word) (v : Byte) : Prop :=
  (s.mem.wf = true → s.cfg.isDevice x = false → t.mem.read x.toNat = v) ∧
  (s.cfg.isDevice x = true → t.mem.read x.toNat = s.mem.read x.toNat) ∧
  (∀ y : Nat, y ≠ x.toNat → t.mem.read y = s.mem.read y) ∧
  (s.mem.wf = true → t.mem.wf = true)

/-- Memory after the 16-bit value v is stored at x, low byte at x (20_memory.md R84). -/
def Stored2 (s t : State) (x v : Word) : Prop :=
  (s.mem.wf = true → s.cfg.isDevice x = false → t.mem.read x.toNat = Word.lo v) ∧
  (s.mem.wf = true → s.cfg.isDevice (x + 1#16) = false →
    t.mem.read (x + 1#16).toNat = Word.hi v) ∧
  (s.cfg.isDevice x = true → t.mem.read x.toNat = s.mem.read x.toNat) ∧
  (s.cfg.isDevice (x + 1#16) = true →
    t.mem.read (x + 1#16).toNat = s.mem.read (x + 1#16).toNat) ∧
  (∀ y : Nat, y ≠ x.toNat → y ≠ (x + 1#16).toNat → t.mem.read y = s.mem.read y) ∧
  (s.mem.wf = true → t.mem.wf = true)

/-- Push16(v) then PC at the target (20_memory.md R95, 43_branch.md R330): the frame of a call. -/
def Called (s t : State) (target : Word) : Prop :=
  Stored2 s t (s.sp - 2#16) s.pc ∧
  t = { s with
    pc := target, sp := s.sp - 2#16, mem := t.mem
    events := .memWrite (s.sp - 2#16) (Word.lo s.pc) :: .memWrite (s.sp - 1#16) (Word.hi s.pc) ::
      s.events }

/-- PC <- Pop16(): the frame of a return. -/
def Returned (s t : State) : Prop :=
  Loaded2 s s.sp t.pc t.draws ∧
  t = { s with
    pc := t.pc, sp := s.sp + 2#16, draws := t.draws
    events := loaded2Events s.sp t.pc ++ s.events }

/-- The condition of a code, read off F as the table of 43_branch.md R300 gives it: codes 000/001
read Z, 010/011 CY, 100/101 P, 110/111 S, and an odd code wants the flag set. -/
def condMet (ccc : BitVec 3) (f : Byte) : Bool :=
  f.getLsbD ([6, 0, 2, 7].getD (ccc.toNat / 2) 0) == decide (ccc.toNat % 2 = 1)

/-! ## The forms of the ALU group -/

/-- The encodings 10ooosss, 10ooo110, 11ooo110 (30_encoding.md R128), and a relation P between the
state the operand has been read in, the operand, and the state after, for the register, memory and
immediate forms. -/
def AluForms (ooo : BitVec 3) (regF : Reg → Instr) (memF : Instr) (immF : Byte → Instr)
    (P : State → Byte → State → Prop) : Prop :=
  (∀ r, encode (regF r) = [0b10#2 ++ ooo ++ r.code]) ∧
  encode memF = [0b10#2 ++ ooo ++ 0b110#3] ∧
  (∀ d8, encode (immF d8) = [0b11#2 ++ ooo ++ 0b110#3, d8]) ∧
  (∀ r s, ∃ t, exec (regF r) s = .next t ∧ P s (s.reg r) t) ∧
  (∀ s, ∃ t v n, exec memF s = .next t ∧ Loaded s s.hl v n ∧
    P { s with draws := n, events := .memRead s.hl v :: s.events } v t) ∧
  (∀ d8 s, ∃ t, exec (immF d8) s = .next t ∧ P s d8 t)

/-- A sum in A, all five flags, nothing else (41_arithmetic.md R201, R205). -/
def AddResult (c : Bool) (s : State) (v : Byte) (t : State) : Prop :=
  t.a.toNat = (s.a.toNat + v.toNat + c.toNat) % 256 ∧ ResultFlags t.f t.a ∧
  t.f.getLsbD 0 = decide (s.a.toNat + v.toNat + c.toNat ≥ 256) ∧
  t.f.getLsbD 4 = decide (s.a.toNat % 16 + v.toNat % 16 + c.toNat ≥ 16) ∧
  UndocAfter s t ∧ t = { s with a := t.a, f := t.f, draws := t.draws }

/-- The five flags of s.a - v - c in F: CY the borrow, AC set when the low nibble does not borrow
(41_arithmetic.md R202). -/
def SubFlags (c : Bool) (s : State) (v res f : Byte) : Prop :=
  (res.toNat : Int) = ((s.a.toNat : Int) - v.toNat - c.toNat) % 256 ∧ ResultFlags f res ∧
  f.getLsbD 0 = decide (s.a.toNat < v.toNat + c.toNat) ∧
  f.getLsbD 4 = decide (s.a.toNat % 16 ≥ v.toNat % 16 + c.toNat)

/-- A difference in A, all five flags, nothing else (41_arithmetic.md R211). -/
def SubResult (c : Bool) (s : State) (v : Byte) (t : State) : Prop :=
  SubFlags c s v t.a t.f ∧ UndocAfter s t ∧ t = { s with a := t.a, f := t.f, draws := t.draws }

/-- The flags of a difference, A kept (42_logical.md R259). -/
def CmpResult (s : State) (v : Byte) (t : State) : Prop :=
  (∃ res, SubFlags false s v res t.f) ∧ (t.f.getLsbD 6 = decide (s.a = v)) ∧ UndocAfter s t ∧
  t = { s with f := t.f, draws := t.draws }

/-- A bitwise result in A; S, Z, P from it, CY cleared, AC as given (42_logical.md R250, R253,
R256). -/
def LogicResult (op : Bool → Bool → Bool) (ac : State → Byte → Bool) (s : State) (v : Byte)
    (t : State) : Prop :=
  (∀ k, k < 8 → t.a.getLsbD k = op (s.a.getLsbD k) (v.getLsbD k)) ∧ ResultFlags t.f t.a ∧
  t.f.getLsbD 0 = false ∧ t.f.getLsbD 4 = ac s v ∧ UndocAfter s t ∧
  t = { s with a := t.a, f := t.f, draws := t.draws }

/-- AC of ANA (42_logical.md R250). -/
def anaCarry (s : State) (v : Byte) : Bool :=
  match s.cfg.variant with
  | .i8080 => s.a.getLsbD 3 || v.getLsbD 3
  | .i8080a => s.a.getLsbD 3 || v.getLsbD 3
  | .i8085a => true

/-- S, Z, P of the result and AC as given; CY kept (41_arithmetic.md R217, R219). -/
def CountFlags (s t : State) (res : Byte) (ac : Bool) : Prop :=
  ResultFlags t.f res ∧ t.f.getLsbD 4 = ac ∧ t.f.getLsbD 0 = s.f.getLsbD 0 ∧ UndocAfter s t

/-- Only CY of the five flags is written (42_logical.md R262). -/
def CarryOnly (s t : State) (cy : Bool) : Prop :=
  t.f.getLsbD 0 = cy ∧ KeepsSZAP s t ∧ UndocAfter s t

/-- A rotate: A bit by bit, CY, nothing else. -/
def Rotated (i : Instr) (op : Byte) (bit : State → Nat → Bool) (cy : State → Bool) : Prop :=
  encode i = [op] ∧ ∀ s, ∃ t, exec i s = .next t ∧
    (∀ k, k < 8 → t.a.getLsbD k = bit s k) ∧ CarryOnly s t (cy s) ∧
    t = { s with a := t.a, f := t.f, draws := t.draws }

/-- Only registers A to L differ. -/
def OnlyRegs (s t : State) : Prop :=
  t = { s with a := t.a, b := t.b, c := t.c, d := t.d, e := t.e, h := t.h, l := t.l }

/-- Register r holds v, every other register A to L what it held. -/
def RegSet (s t : State) (r : Reg) (v : Byte) : Prop :=
  t.reg r = v ∧ ∀ q, q ≠ r → t.reg q = s.reg q

/-- A pair (or SP) holds v; every register outside it holds what it held. -/
def PairSet (s t : State) (rp : Pair) (v : Word) : Prop :=
  t.pair rp = v ∧ t.a = s.a ∧ ∀ q, q ≠ rp → t.pair q = s.pair q

/-- Only registers A to L and SP differ, and what FixF writes. -/
def OnlyPairs (s t : State) : Prop :=
  t = { s with
    a := t.a, b := t.b, c := t.c, d := t.d, e := t.e, h := t.h, l := t.l, sp := t.sp
    f := t.f, draws := t.draws }

/-! ## Named registers -/

/-- The width of a named register (10_state.md section 1 to 5, R55). -/
def namedWidth : NamedReg → Nat
  | .pc | .sp | .af | .bc | .de | .hl => 16
  | .half _ | .f | .status => 8
  | .sod | .sid | .inte | .halt => 1
  | .im => 3

/-- F after an import of AF or F: the low byte of the value, exact on the I8085A; bits 5, 3, 1 as
R35 fixes them on the 8080 variants (10_state.md R55). -/
def ImportedF (s t : State) (v : Word) : Prop :=
  (s.cfg.variant = .i8085a → t.f = Word.lo v) ∧
  (s.cfg.variant ≠ .i8085a →
    t.f.getLsbD 5 = false ∧ t.f.getLsbD 3 = false ∧ t.f.getLsbD 1 = true ∧
    ∀ k, k < 8 → k ≠ 5 → k ≠ 3 → k ≠ 1 → t.f.getLsbD k = v.getLsbD k)

/-! ## Accesses -/

/-- A data access as the table of 20_memory.md R91 names it. -/
inductive Access where
  | rd (x : Word)
  | wr (x : Word)
  | ioRd (x : Word)
  | ioWr (x : Word)
  deriving DecidableEq, Repr

/-- The access of an event; a callback is none. -/
def accessOf : Event → Option Access
  | .memRead x _ => some (.rd x)
  | .memWrite x _ => some (.wr x)
  | .ioRead x _ => some (.ioRd x)
  | .ioWrite x _ => some (.ioWr x)
  | .inteChanged _ => none
  | .sodChanged _ => none
  | .sidRead _ => none
  | .acknowledge _ => none

/-- The accesses made between two states, oldest first. -/
def Accesses (s t : State) (l : List Access) : Prop :=
  ∃ new, t.events = new ++ s.events ∧ new.reverse.filterMap accessOf = l

def pushAccesses (s : State) : List Access := [.wr (s.sp - 1#16), .wr (s.sp - 2#16)]
def popAccesses (s : State) : List Access := [.rd s.sp, .rd (s.sp + 1#16)]
def takenPush (ccc : BitVec 3) (s : State) : List Access := if condMet ccc s.f then pushAccesses s else []
def takenPop (ccc : BitVec 3) (s : State) : List Access := if condMet ccc s.f then popAccesses s else []

/-- The table of 20_memory.md R91. -/
def dataAccesses (i : Instr) (s : State) : List Access :=
  match i with
  | .movRM _ | .addM | .adcM | .subM | .sbbM | .anaM | .xraM | .oraM | .cmpM => [.rd s.hl]
  | .movMR _ | .mviM _ => [.wr s.hl]
  | .inrM | .dcrM => [.rd s.hl, .wr s.hl]
  | .lda x => [.rd x]
  | .sta x => [.wr x]
  | .ldax .bc => [.rd s.bc]
  | .ldax .de => [.rd s.de]
  | .stax .bc => [.wr s.bc]
  | .stax .de => [.wr s.de]
  | .lhld x => [.rd x, .rd (x + 1#16)]
  | .shld x => [.wr x, .wr (x + 1#16)]
  | .lhlx => [.rd s.de, .rd (s.de + 1#16)]
  | .shlx => [.wr s.de, .wr (s.de + 1#16)]
  | .push _ | .pushPsw | .call _ | .callAlias _ _ | .rst _ => pushAccesses s
  | .rstv => if s.f.getLsbD 1 then pushAccesses s else []
  | .pop _ | .popPsw | .ret | .retAlias => popAccesses s
  | .xthl => [.rd s.sp, .rd (s.sp + 1#16), .wr (s.sp + 1#16), .wr s.sp]
  | .inPort p => [.ioRd (ioAddr s.cfg.ioForm p)]
  | .outPort p => [.ioWr (ioAddr s.cfg.ioForm p)]
  | .cnz _ => takenPush 0 s
  | .cz _ => takenPush 1 s
  | .cnc _ => takenPush 2 s
  | .cc _ => takenPush 3 s
  | .cpo _ => takenPush 4 s
  | .cpe _ => takenPush 5 s
  | .cp _ => takenPush 6 s
  | .cm _ => takenPush 7 s
  | .rnz => takenPop 0 s
  | .rz => takenPop 1 s
  | .rnc => takenPop 2 s
  | .rc => takenPop 3 s
  | .rpo => takenPop 4 s
  | .rpe => takenPop 5 s
  | .rp => takenPop 6 s
  | .rm => takenPop 7 s
  | .movRR _ _ | .mviR _ _ | .lxi _ _ | .xchg | .addR _ | .adi _ | .adcR _ | .aci _ | .subR _
  | .sui _ | .sbbR _ | .sbi _ | .inrR _ | .dcrR _ | .inx _ | .dcx _ | .dad _ | .daa | .anaR _
  | .ani _ | .xraR _ | .xri _ | .oraR _ | .ori _ | .cmpR _ | .cpi _ | .rlc | .rrc | .ral | .rar
  | .cma | .cmc | .stc | .jmp _ | .jnz _ | .jz _ | .jnc _ | .jc _ | .jpo _ | .jpe _ | .jp _ | .jm _
  | .pchl | .sphl | .ei | .di | .hlt | .nop | .rim | .sim | .nopAlias _ | .jmpAlias _ | .dsub
  | .arhl | .rdel | .ldhi _ | .ldsi _ | .jnk _ | .jk _ => []

/-! ## Fetch -/

/-- The byte of memory k past PC. -/
def codeByte (s : State) (k : Nat) : Byte := s.mem.read (s.pc + BitVec.ofNat 16 k).toNat

/-- The events of fetching n bytes at PC, newest first. -/
def fetchEvents (s : State) (n : Nat) : List Event :=
  ((List.range n).map fun k => Event.memRead (s.pc + BitVec.ofNat 16 k) (codeByte s k)).reverse

/-- No interrupt is taken before the next fetch and the core is not halted: the step fetches. -/
def Fetches (s : State) : Prop := s.halt = false ∧ (s.eiDelay = true ∨ arbitrate s = none)

/-- The three bytes at PC are plain RAM. -/
def CodeIsRam (s : State) : Prop := ∀ k, k < 3 → s.cfg.isDevice (s.pc + BitVec.ofNat 16 k) = false

/-- The twelve variant-dependent opcodes (30_encoding.md R130). -/
def twelve : List Byte :=
  [0x08, 0x10, 0x18, 0x20, 0x28, 0x30, 0x38, 0xCB, 0xD9, 0xDD, 0xED, 0xFD]

/-- The undocumented entries of a variant (45_undocumented.md R420). -/
def undocumentedOn (v : Variant) : List Byte :=
  if v = .i8085a then [0x08, 0x10, 0x18, 0x28, 0x38, 0xCB, 0xD9, 0xDD, 0xED, 0xFD] else twelve

/-- Two-byte opcodes on every variant (30_encoding.md R121). -/
def twoBytes : List Byte :=
  [0x06, 0x0E, 0x16, 0x1E, 0x26, 0x2E, 0x36, 0x3E, 0xC6, 0xCE, 0xD6, 0xDE, 0xE6, 0xEE, 0xF6, 0xFE,
   0xD3, 0xDB]

/-- Three-byte opcodes on every variant (30_encoding.md R121). -/
def threeBytes : List Byte :=
  [0x01, 0x11, 0x21, 0x31, 0x22, 0x2A, 0x32, 0x3A, 0xC3, 0xCD, 0xC2, 0xCA, 0xD2, 0xDA, 0xE2, 0xEA,
   0xF2, 0xFA, 0xC4, 0xCC, 0xD4, 0xDC, 0xE4, 0xEC, 0xF4, 0xFC]

/-- What an opcode's length is (30_encoding.md R121). -/
def lengthOf (v : Variant) (op : Byte) : Nat :=
  if op ∈ twoBytes then 2
  else if op ∈ threeBytes then 3
  else if v = .i8085a then (if op = 0x28 ∨ op = 0x38 then 2 else if op = 0xDD ∨ op = 0xFD then 3 else 1)
  else (if op = 0xCB ∨ op = 0xDD ∨ op = 0xED ∨ op = 0xFD then 3 else 1)

/-- An instruction of a list run one after the other by `exec`. -/
def execAll : List Instr → State → Result
  | [], s => .next s
  | i :: l, s =>
    match exec i s with
    | .next t => execAll l t
    | .fault r => .fault r
    | .refused r => .refused r

/-- The two-digit decimal number a byte spells. -/
def bcd (x : Byte) : Nat := x.toNat / 16 * 10 + x.toNat % 16

/-- Both digits are decimal. -/
def IsBcd (x : Byte) : Prop := x.toNat / 16 ≤ 9 ∧ x.toNat % 16 ≤ 9

/-- The state with the I8080A in place of its variant. -/
def as8080A (s : State) : State := { s with cfg := { s.cfg with variant := .i8080a } }

/-- The conditional jumps, calls and returns with the codes of 30_encoding.md R124. -/
def jumps : List (BitVec 3 × (Word → Instr)) :=
  [(0, .jnz), (1, .jz), (2, .jnc), (3, .jc), (4, .jpo), (5, .jpe), (6, .jp), (7, .jm)]
def calls : List (BitVec 3 × (Word → Instr)) :=
  [(0, .cnz), (1, .cz), (2, .cnc), (3, .cc), (4, .cpo), (5, .cpe), (6, .cp), (7, .cm)]
def returns : List (BitVec 3 × Instr) :=
  [(0, .rnz), (1, .rz), (2, .rnc), (3, .rc), (4, .rpo), (5, .rpe), (6, .rp), (7, .rm)]

end Sys2Proof.Claims

open Sys2Proof Sys2Proof.Machine Sys2Proof.Claims

/-- reset() leaves what R520 gives, for every draw. That W and Z (log 3), STATUS (log 4) and SID
with what the hooks answer (log 8) are kept is the model's choice, no rule of the spec: R53
leaves W, Z and STATUS unspecified and R520 gives none of them a value
(70_reset_and_hazards.md R520, 70_reset_and_hazards.md R521, 10_state.md R53). -/
def Obligations.ResetOperationValues : Prop :=
  ∀ (x : ResetDraws) (s : State), ∃ t, hostReset x s = t ∧
    (s.cfg.variant = .i8085a → t.f = x.f) ∧
    (s.cfg.variant ≠ .i8085a →
      t.f.getLsbD 5 = false ∧ t.f.getLsbD 3 = false ∧ t.f.getLsbD 1 = true ∧
      ∀ k, k < 8 → k ≠ 5 → k ≠ 3 → k ≠ 1 → t.f.getLsbD k = x.f.getLsbD k) ∧
    t = { s with
      pc := 0x0000#16, sp := x.sp, a := x.a, b := x.b, c := x.c, d := x.d, e := x.e, h := x.h
      l := x.l, f := t.f, ie := false, im := s.cfg.resetIM, halt := false, p75 := false
      trapLatch := false, trapCopyValid := false, trapImCopy := 0b0000#4, sod := false
      eiDelay := false
      events := .sodChanged false :: .inteChanged false :: s.events }

/-- State.reset holds the reset values of R53 and is what a reset with zero draws leaves
(10_state.md section 5, 70_reset_and_hazards.md section 1). -/
def Obligations.ResetStateIsAReset : Prop :=
  State.reset.pc = 0x0000#16 ∧ State.reset.ie = false ∧ State.reset.im = 0b000#3 ∧
  State.reset.halt = false ∧ State.reset.p75 = false ∧ State.reset.trapLatch = false ∧
  State.reset.trapCopyValid = false ∧ State.reset.trapImCopy = 0b0000#4 ∧
  State.reset.sod = false ∧ State.reset.eiDelay = false ∧
  { hostReset { a := 0, b := 0, c := 0, d := 0, e := 0, h := 0, l := 0, f := 0, sp := 0 }
      State.reset with events := [] } = State.reset

/-- The invariant holds at State.reset, and at an 8080 core reset with any draws. That the fields
an 8080 variant lacks stand idle in its State is the model's choice (log 22) (10_state.md R35,
10_state.md R52). -/
def Obligations.InvariantAtReset : Prop :=
  State.reset.Inv ∧
  ∀ (v : Variant) (x : ResetDraws), (hostReset x { State.reset with cfg := Config.ofVariant v }).Inv

/-- Every step keeps the invariant: canonical memory; on the 8080 variants the fixed F bits and
the idle 8085A state. That the fields an 8080 variant lacks stand idle in its State is the
model's choice (log 22) (10_state.md R35, 10_state.md R52, 20_memory.md R80). -/
def Obligations.StepKeepsInvariant : Prop :=
  ∀ s t : State, s.Inv → step s = .next t → t.Inv

/-- Reset, input lines and register imports keep the invariant. That an import of SOD, SID or IM
on an 8080 variant changes nothing, and so keeps the idle state, is the model's choice (log
15, DESIGN CHOICE), which R52 and R55 do not say; so are the idle fields themselves (log 22)
(10_state.md R35, 10_state.md R52, 10_state.md R55, 60_exceptions.md R452). -/
def Obligations.HostActionsKeepInvariant : Prop :=
  ∀ s : State, s.Inv →
    (∀ x, (hostReset x s).Inv) ∧
    (∀ line level t, setInput line level s = .next t → t.Inv) ∧
    (∀ r v, (importReg r v s).Inv)

/-- Decoding the encoding of a well-formed instruction gives it back, with the bytes after it
(30_encoding.md sections 1 and 2). -/
def Obligations.DecodeOfEncode : Prop :=
  ∀ (v : Variant) (i : Instr) (rest : List Byte), i.wf v = true →
    decode v (encode i ++ rest) = .ok (i, rest)

/-- What the decoder reads is a well-formed instruction whose encoding is the bytes read
(30_encoding.md sections 1 and 2). -/
def Obligations.EncodeOfDecode : Prop :=
  ∀ (v : Variant) (bs rest : List Byte) (i : Instr), decode v bs = .ok (i, rest) →
    i.wf v = true ∧ encode i ++ rest = bs

/-- The opcode byte fixes the length as the lists of R121 give it (R121). -/
def Obligations.LengthByOpcode : Prop :=
  ∀ (v : Variant) (op : Byte), (opLength v op).toNat = lengthOf v op

/-- Exactly the twelve opcodes of R130 decode differently on the 8080 variants and the I8085A, as
its table gives (R130). -/
def Obligations.TwelveVariantDependentOpcodes : Prop :=
  (∀ op : Byte, (∃ lo hi, decodeOp .i8080 op lo hi ≠ decodeOp .i8085a op lo hi) ↔ op ∈ twelve) ∧
  (∀ op lo hi, decodeOp .i8080 op lo hi = decodeOp .i8080a op lo hi) ∧
  (∀ lo hi,
    (decodeOp .i8080 0x08 lo hi, decodeOp .i8085a 0x08 lo hi) = (.nopAlias 1, .dsub) ∧
    (decodeOp .i8080 0x10 lo hi, decodeOp .i8085a 0x10 lo hi) = (.nopAlias 2, .arhl) ∧
    (decodeOp .i8080 0x18 lo hi, decodeOp .i8085a 0x18 lo hi) = (.nopAlias 3, .rdel) ∧
    (decodeOp .i8080 0x20 lo hi, decodeOp .i8085a 0x20 lo hi) = (.nopAlias 4, .rim) ∧
    (decodeOp .i8080 0x28 lo hi, decodeOp .i8085a 0x28 lo hi) = (.nopAlias 5, .ldhi lo) ∧
    (decodeOp .i8080 0x30 lo hi, decodeOp .i8085a 0x30 lo hi) = (.nopAlias 6, .sim) ∧
    (decodeOp .i8080 0x38 lo hi, decodeOp .i8085a 0x38 lo hi) = (.nopAlias 7, .ldsi lo) ∧
    (decodeOp .i8080 0xCB lo hi, decodeOp .i8085a 0xCB lo hi) = (.jmpAlias (hi ++ lo), .rstv) ∧
    (decodeOp .i8080 0xD9 lo hi, decodeOp .i8085a 0xD9 lo hi) = (.retAlias, .shlx) ∧
    (decodeOp .i8080 0xDD lo hi, decodeOp .i8085a 0xDD lo hi) =
      (.callAlias 1 (hi ++ lo), .jnk (hi ++ lo)) ∧
    (decodeOp .i8080 0xED lo hi, decodeOp .i8085a 0xED lo hi) = (.callAlias 2 (hi ++ lo), .lhlx) ∧
    (decodeOp .i8080 0xFD lo hi, decodeOp .i8085a 0xFD lo hi) =
      (.callAlias 3 (hi ++ lo), .jk (hi ++ lo)))

/-- Words written out from the encodings of each family decode to their instructions
(30_encoding.md section 1). -/
def Obligations.SampleWordsDecode : Prop :=
  decode .i8080 [0b01111000] = .ok (.movRR .a .b, []) ∧
  decode .i8080 [0b00100001, 0x34, 0x12] = .ok (.lxi .hl 0x1234, []) ∧
  decode .i8080 [0b10000110] = .ok (.addM, []) ∧
  decode .i8080 [0b11011110, 0x01] = .ok (.sbi 0x01, []) ∧
  decode .i8080 [0b00110101] = .ok (.dcrM, []) ∧
  decode .i8080 [0b10111011] = .ok (.cmpR .e, []) ∧
  decode .i8080 [0b11010010, 0x00, 0x20] = .ok (.jnc 0x2000, []) ∧
  decode .i8080 [0b11101111] = .ok (.rst 5, []) ∧
  decode .i8080 [0b11110001] = .ok (.popPsw, []) ∧
  decode .i8080 [0b01110110] = .ok (.hlt, []) ∧
  decode .i8080 [0b11010011, 0x20] = .ok (.outPort 0x20, []) ∧
  decode .i8080 [0b11101101, 0x00, 0x30] = .ok (.callAlias 2 0x3000, []) ∧
  decode .i8085a [0b00110000] = .ok (.sim, []) ∧
  decode .i8085a [0b00101000, 0x10] = .ok (.ldhi 0x10, []) ∧
  decode .i8085a [0b11111101, 0x00, 0x40] = .ok (.jk 0x4000, []) ∧
  decode .i8085a [0x3E] = .error (.truncated 0x3E)

/-- A step that fetches runs the instruction decoded at PC, with PC past it (STATUS: log 4; W and
Z: log 3) (60_exceptions.md R457, 00_scope.md R13, 10_state.md R38). -/
def Obligations.StepRunsTheDecodedInstruction : Prop :=
  ∀ (s : State) (i : Instr) (rest : List Byte), Fetches s → CodeIsRam s →
    decode s.cfg.variant [codeByte s 0, codeByte s 1, codeByte s 2] = .ok (i, rest) →
    refusesOpcode s.cfg i = false →
    step s = exec i { s with
      eiDelay := false
      status := (Config.freeValue s.draws).setWidth 8
      draws := s.draws + 1
      pc := s.pc + BitVec.ofNat 16 (3 - rest.length)
      w := if rest = [] then codeByte s 2 else s.w
      z := if rest = [] then codeByte s 1 else s.z
      events := fetchEvents s (3 - rest.length) ++ s.events }

/-- Under UNDOC_OPCODES = REFUSE a fetching step is refused exactly at the undocumented opcodes of
its variant (R420). -/
def Obligations.RefusedOpcodes : Prop :=
  ∀ s : State, Fetches s → s.cfg.isDevice s.pc = false →
    (s.cfg.undoc = .refuse →
      (step s = .refused .undocumentedOpcode ↔
        s.mem.read s.pc.toNat ∈ undocumentedOn s.cfg.variant)) ∧
    (s.cfg.undoc = .hardware → ∃ t, step s = .next t)

/-- The first-named register of a pair is its high byte, for reading and for writing; a register
write changes that register (R32). -/
def Obligations.RegisterPairLayout : Prop :=
  ∀ (s : State) (v : Word),
    (s.pair .bc).toNat = 256 * s.b.toNat + s.c.toNat ∧
    (s.pair .de).toNat = 256 * s.d.toNat + s.e.toNat ∧
    (s.pair .hl).toNat = 256 * s.h.toNat + s.l.toNat ∧ s.pair .sp = s.sp ∧
    (∃ t, s.setPair .bc v = t ∧ t = { s with b := t.b, c := t.c } ∧
      256 * t.b.toNat + t.c.toNat = v.toNat) ∧
    (∃ t, s.setPair .de v = t ∧ t = { s with d := t.d, e := t.e } ∧
      256 * t.d.toNat + t.e.toNat = v.toNat) ∧
    (∃ t, s.setPair .hl v = t ∧ t = { s with h := t.h, l := t.l } ∧
      256 * t.h.toNat + t.l.toNat = v.toNat) ∧
    s.setPair .sp v = { s with sp := v } ∧
    (∀ (r : Reg) (x : Byte), ∃ t, s.setReg r x = t ∧ RegSet s t r x ∧ OnlyRegs s t) ∧
    (Pair.bc.code, Pair.de.code, Pair.hl.code, Pair.sp.code) = (0b00#2, 0b01#2, 0b10#2, 0b11#2) ∧
    (StackPair.bc.code, StackPair.de.code, StackPair.hl.code) = (0b00#2, 0b01#2, 0b10#2) ∧
    encode .pushPsw = [0b11#2 ++ 0b11#2 ++ 0b0101#4] ∧
    encode .popPsw = [0b11#2 ++ 0b11#2 ++ 0b0001#4] ∧
    s.psw.toNat = 256 * s.a.toNat + s.f.toNat ∧
    readM s = memRead (s.pair .hl) s ∧ ∀ x : Byte, writeM x s = memWrite (s.pair .hl) x s

/-- SetSZP replaces exactly the S, Z and P bits, by sign, zero and even parity of the result
(R200). -/
def Obligations.SetSZPFollowsTheTable : Prop :=
  ∀ res f : Byte, ResultFlags (setSZP res f) res ∧
    (∀ k, k < 8 → k ≠ 7 → k ≠ 6 → k ≠ 2 → (setSZP res f).getLsbD k = f.getLsbD k) ∧
    (zs res).toNat = (if res.toNat = 0 then 0x40 else 0) + (if res.toNat ≥ 128 then 0x80 else 0) ∧
    (zsp res).toNat = (zs res).toNat + (if evenOnes res then 0x04 else 0)

/-- ADD, ADC, ADI and ACI in every form: sum, five flags, undocumented bits, frame (R205, R206,
R207, R208, R209, R210). -/
def Obligations.AddAndAdcForms : Prop :=
  AluForms 0b000#3 .addR .addM .adi (AddResult false) ∧
  AluForms 0b001#3 .adcR .adcM .aci (fun s v t => AddResult (s.f.getLsbD 0) s v t)

/-- SUB, SBB, SUI and SBI in every form: difference, borrow in CY, no-borrow in AC, frame (R211,
R212, R213, R214, R215, R216). -/
def Obligations.SubAndSbbForms : Prop :=
  AluForms 0b010#3 .subR .subM .sui (SubResult false) ∧
  AluForms 0b011#3 .sbbR .sbbM .sbi (fun s v t => SubResult (s.f.getLsbD 0) s v t)

/-- ANA, XRA, ORA, ANI, XRI and ORI in every form: the bitwise result, CY and AC, frame (R250,
R251, R252, R253, R254, R255, R256, R257, R258). -/
def Obligations.LogicForms : Prop :=
  AluForms 0b100#3 .anaR .anaM .ani (LogicResult and anaCarry) ∧
  AluForms 0b101#3 .xraR .xraM .xri (LogicResult xor fun _ _ => false) ∧
  AluForms 0b110#3 .oraR .oraM .ori (LogicResult or fun _ _ => false)

/-- CMP r, CMP M and CPI: the flags of SUB, A kept (R259, R260, R261). -/
def Obligations.CmpForms : Prop :=
  AluForms 0b111#3 .cmpR .cmpM .cpi CmpResult

/-- INR and DCR in every form: plus or minus one, S Z AC P, CY kept, frame (R217, R218, R219,
R220). -/
def Obligations.InrAndDcrForms : Prop :=
  ((∀ r, encode (.inrR r) = [0b00#2 ++ r.code ++ 0b100#3]) ∧ encode .inrM = [0x34] ∧
   (∀ r s, ∃ t, exec (.inrR r) s = .next t ∧ (t.reg r).toNat = ((s.reg r).toNat + 1) % 256 ∧
     (∀ q, q ≠ r → t.reg q = s.reg q) ∧
     CountFlags s t (t.reg r) (decide ((s.reg r).toNat % 16 = 15)) ∧
     t = { s with
       a := t.a, b := t.b, c := t.c, d := t.d, e := t.e, h := t.h, l := t.l, f := t.f
       draws := t.draws }) ∧
   (∀ s, ∃ t v n res, exec .inrM s = .next t ∧ Loaded s s.hl v n ∧
     res.toNat = (v.toNat + 1) % 256 ∧ Stored s t s.hl res ∧
     CountFlags { s with draws := n } t res (decide (v.toNat % 16 = 15)) ∧
     t = { s with
       f := t.f, mem := t.mem, draws := t.draws
       events := .memWrite s.hl res :: .memRead s.hl v :: s.events })) ∧
  ((∀ r, encode (.dcrR r) = [0b00#2 ++ r.code ++ 0b101#3]) ∧ encode .dcrM = [0x35] ∧
   (∀ r s, ∃ t, exec (.dcrR r) s = .next t ∧ (t.reg r).toNat = ((s.reg r).toNat + 255) % 256 ∧
     (∀ q, q ≠ r → t.reg q = s.reg q) ∧
     CountFlags s t (t.reg r) (decide ((s.reg r).toNat % 16 ≠ 0)) ∧
     t = { s with
       a := t.a, b := t.b, c := t.c, d := t.d, e := t.e, h := t.h, l := t.l, f := t.f
       draws := t.draws }) ∧
   (∀ s, ∃ t v n res, exec .dcrM s = .next t ∧ Loaded s s.hl v n ∧
     res.toNat = (v.toNat + 255) % 256 ∧ Stored s t s.hl res ∧
     CountFlags { s with draws := n } t res (decide (v.toNat % 16 ≠ 0)) ∧
     t = { s with
       f := t.f, mem := t.mem, draws := t.draws
       events := .memWrite s.hl res :: .memRead s.hl v :: s.events }))

/-- INX and DCX: the pair or SP plus or minus one modulo 65536, no documented flag (R221, R222). -/
def Obligations.InxDcxPairs : Prop :=
  (∀ rp, encode (.inx rp) = [0b00#2 ++ rp.code ++ 0b0011#4]) ∧
  (∀ rp, encode (.dcx rp) = [0b00#2 ++ rp.code ++ 0b1011#4]) ∧
  ∀ (rp : Pair) (s : State),
    (∃ t, exec (.inx rp) s = .next t ∧ PairSet s t rp (BitVec.ofNat 16 ((s.pair rp).toNat + 1)) ∧
      t.f.getLsbD 0 = s.f.getLsbD 0 ∧ KeepsSZAP s t ∧ UndocAfter s t ∧ OnlyPairs s t) ∧
    (∃ t, exec (.dcx rp) s = .next t ∧
      PairSet s t rp (BitVec.ofNat 16 ((s.pair rp).toNat + 65535)) ∧
      t.f.getLsbD 0 = s.f.getLsbD 0 ∧ KeepsSZAP s t ∧ UndocAfter s t ∧ OnlyPairs s t)

/-- DAD: HL plus the pair or SP modulo 65536, CY the carry out of bit 15 (R223). -/
def Obligations.DadPairs : Prop :=
  (∀ rp, encode (.dad rp) = [0b00#2 ++ rp.code ++ 0b1001#4]) ∧
  ∀ (rp : Pair) (s : State), ∃ t, exec (.dad rp) s = .next t ∧
    t.hl.toNat = (s.hl.toNat + (s.pair rp).toNat) % 65536 ∧
    CarryOnly s t (decide (s.hl.toNat + (s.pair rp).toNat ≥ 65536)) ∧
    t = { s with h := t.h, l := t.l, f := t.f, draws := t.draws }

/-- DAA: the two-step decimal correction, its carries and flags (R224). -/
def Obligations.DaaCorrection : Prop :=
  encode .daa = [0b00100111] ∧ ∀ s : State, ∃ t low high, exec .daa s = .next t ∧
    low = (s.f.getLsbD 4 || decide (s.a.toNat % 16 > 9)) ∧
    high = (s.f.getLsbD 0 || decide (s.a.toNat > 0x99)) ∧
    t.a.toNat = (s.a.toNat + 6 * low.toNat + 0x60 * high.toNat) % 256 ∧
    ResultFlags t.f t.a ∧ t.f.getLsbD 0 = high ∧
    t.f.getLsbD 4 = decide (s.a.toNat % 16 + 6 * low.toNat ≥ 16) ∧ UndocAfter s t ∧
    t = { s with a := t.a, f := t.f, draws := t.draws }

/-- An addition of two-digit decimals followed by DAA gives their decimal sum (41_arithmetic.md
section 5). -/
def Obligations.DaaAddsDecimally : Prop :=
  ∀ (s : State) (v : Byte), IsBcd s.a → IsBcd v → ∃ t,
    execAll [.aci v, .daa] s = .next t ∧ IsBcd t.a ∧
    bcd t.a + 100 * (t.f.getLsbD 0).toNat = bcd s.a + bcd v + (s.f.getLsbD 0).toNat

/-- RLC, RRC, RAL, RAR, CMA, CMC and STC: A bit by bit, CY, every other flag kept (R262, R263,
R264, R265, R266, R267, R268). -/
def Obligations.RotatesAndCarry : Prop :=
  Rotated .rlc 0b00000111 (fun s k => s.a.getLsbD ((k + 7) % 8)) (fun s => s.a.getLsbD 7) ∧
  Rotated .rrc 0b00001111 (fun s k => s.a.getLsbD ((k + 1) % 8)) (fun s => s.a.getLsbD 0) ∧
  Rotated .ral 0b00010111 (fun s k => if k = 0 then s.f.getLsbD 0 else s.a.getLsbD (k - 1))
    (fun s => s.a.getLsbD 7) ∧
  Rotated .rar 0b00011111 (fun s k => if k = 7 then s.f.getLsbD 0 else s.a.getLsbD (k + 1))
    (fun s => s.a.getLsbD 0) ∧
  (encode .cma = [0b00101111] ∧ encode .cmc = [0b00111111] ∧ encode .stc = [0b00110111] ∧
   ∀ s : State,
     (∃ t, exec .cma s = .next t ∧ t.a.toNat = 255 - s.a.toNat ∧ t = { s with a := t.a }) ∧
     (∃ t, exec .cmc s = .next t ∧ CarryOnly s t (!s.f.getLsbD 0) ∧
       t = { s with f := t.f, draws := t.draws }) ∧
     (∃ t, exec .stc s = .next t ∧ CarryOnly s t true ∧ t = { s with f := t.f, draws := t.draws }))

/-- 8 RLCs or RRCs restore A, 9 RALs or RARs restore A and CY, 17 RDELs restore DE and CY
(42_logical.md section 3, 45_undocumented.md R412). -/
def Obligations.RotatesReturn : Prop :=
  ∀ s : State,
    (∃ t, execAll (List.replicate 8 .rlc) s = .next t ∧ t.a = s.a) ∧
    (∃ t, execAll (List.replicate 8 .rrc) s = .next t ∧ t.a = s.a) ∧
    (∃ t, execAll (List.replicate 9 .ral) s = .next t ∧ t.a = s.a ∧
      t.f.getLsbD 0 = s.f.getLsbD 0) ∧
    (∃ t, execAll (List.replicate 9 .rar) s = .next t ∧ t.a = s.a ∧
      t.f.getLsbD 0 = s.f.getLsbD 0) ∧
    (∃ t, execAll (List.replicate 17 .rdel) s = .next t ∧ t.de = s.de ∧
      t.f.getLsbD 0 = s.f.getLsbD 0)

/-- MOV r1,r2, MOV r,M, MVI r,d8, LDA and LDAX: the destination takes the value, nothing else
changes (R150, R151, R153, R156, R160). -/
def Obligations.LoadsOfRegisters : Prop :=
  ((∀ dst r, encode (.movRR dst r) = [0b01#2 ++ dst.code ++ r.code]) ∧
   (∀ dst, encode (.movRM dst) = [0b01#2 ++ dst.code ++ 0b110#3]) ∧
   (∀ dst v, encode (.mviR dst v) = [0b00#2 ++ dst.code ++ 0b110#3, v]) ∧
   (∀ dst r s, ∃ t, exec (.movRR dst r) s = .next t ∧ RegSet s t dst (s.reg r) ∧ OnlyRegs s t) ∧
   (∀ dst v s, ∃ t, exec (.mviR dst v) s = .next t ∧ RegSet s t dst v ∧ OnlyRegs s t) ∧
   (∀ dst s, ∃ t v n, exec (.movRM dst) s = .next t ∧ Loaded s s.hl v n ∧ RegSet s t dst v ∧
     OnlyRegs { s with draws := n, events := .memRead s.hl v :: s.events } t)) ∧
  ((∀ x, encode (.lda x) = [0b00111010, Word.lo x, Word.hi x]) ∧
   encode (.ldax .bc) = [0b00001010] ∧ encode (.ldax .de) = [0b00011010] ∧
   ∀ s : State,
     (∀ x, ∃ t, exec (.lda x) s = .next t ∧ Loaded s x t.a t.draws ∧
       t = { s with a := t.a, draws := t.draws, events := .memRead x t.a :: s.events }) ∧
     (∃ t, exec (.ldax .bc) s = .next t ∧ Loaded s s.bc t.a t.draws ∧
       t = { s with a := t.a, draws := t.draws, events := .memRead s.bc t.a :: s.events }) ∧
     (∃ t, exec (.ldax .de) s = .next t ∧ Loaded s s.de t.a t.draws ∧
       t = { s with a := t.a, draws := t.draws, events := .memRead s.de t.a :: s.events }))

/-- MOV M,r, MVI M,d8, STA and STAX: one byte stored, every other byte and register kept (R152,
R154, R157, R161). -/
def Obligations.StoresOfOneByte : Prop :=
  (∀ r, encode (.movMR r) = [0b01110#5 ++ r.code]) ∧
  (∀ v, encode (.mviM v) = [0b00110110, v]) ∧
  (∀ x, encode (.sta x) = [0b00110010, Word.lo x, Word.hi x]) ∧
  encode (.stax .bc) = [0b00000010] ∧ encode (.stax .de) = [0b00010010] ∧
  ∀ s : State,
    (∀ r, ∃ t, exec (.movMR r) s = .next t ∧ Stored s t s.hl (s.reg r) ∧
      t = { s with mem := t.mem, events := .memWrite s.hl (s.reg r) :: s.events }) ∧
    (∀ v, ∃ t, exec (.mviM v) s = .next t ∧ Stored s t s.hl v ∧
      t = { s with mem := t.mem, events := .memWrite s.hl v :: s.events }) ∧
    (∀ x, ∃ t, exec (.sta x) s = .next t ∧ Stored s t x s.a ∧
      t = { s with mem := t.mem, events := .memWrite x s.a :: s.events }) ∧
    (∃ t, exec (.stax .bc) s = .next t ∧ Stored s t s.bc s.a ∧
      t = { s with mem := t.mem, events := .memWrite s.bc s.a :: s.events }) ∧
    (∃ t, exec (.stax .de) s = .next t ∧ Stored s t s.de s.a ∧
      t = { s with mem := t.mem, events := .memWrite s.de s.a :: s.events })

/-- LHLD, SHLD, LHLX and SHLX: HL and two bytes of memory, low byte at the address (R158, R159,
R416, R418). -/
def Obligations.SixteenBitTransfers : Prop :=
  (∀ x, encode (.lhld x) = [0b00101010, Word.lo x, Word.hi x]) ∧
  (∀ x, encode (.shld x) = [0b00100010, Word.lo x, Word.hi x]) ∧
  encode .lhlx = [0b11101101] ∧ encode .shlx = [0b11011001] ∧
  ∀ s : State,
    (∀ x, ∃ t, exec (.lhld x) s = .next t ∧ Loaded2 s x t.hl t.draws ∧
      t = { s with h := t.h, l := t.l, draws := t.draws, events := loaded2Events x t.hl ++ s.events }) ∧
    (∃ t, exec .lhlx s = .next t ∧ Loaded2 s s.de t.hl t.draws ∧
      t = { s with
        h := t.h, l := t.l, draws := t.draws, events := loaded2Events s.de t.hl ++ s.events }) ∧
    (∀ x, ∃ t, exec (.shld x) s = .next t ∧ Stored2 s t x s.hl ∧
      t = { s with
        mem := t.mem, events := .memWrite (x + 1#16) s.h :: .memWrite x s.l :: s.events }) ∧
    (∃ t, exec .shlx s = .next t ∧ Stored2 s t s.de s.hl ∧
      t = { s with
        mem := t.mem, events := .memWrite (s.de + 1#16) s.h :: .memWrite s.de s.l :: s.events })

/-- LXI, XCHG, SPHL, LDHI and LDSI: the pair written, nothing else changed (R155, R162, R355,
R413, R414). -/
def Obligations.PairTransfers : Prop :=
  (∀ rp v, encode (.lxi rp v) = [0b00#2 ++ rp.code ++ 0b0001#4, Word.lo v, Word.hi v]) ∧
  encode .xchg = [0b11101011] ∧ encode .sphl = [0b11111001] ∧
  (∀ v, encode (.ldhi v) = [0b00101000, v]) ∧ (∀ v, encode (.ldsi v) = [0b00111000, v]) ∧
  ∀ s : State,
    (∀ rp v, ∃ t, exec (.lxi rp v) s = .next t ∧ PairSet s t rp v ∧ OnlyPairs s t ∧ t.f = s.f ∧
      t.draws = s.draws) ∧
    (∃ t, exec .xchg s = .next t ∧ t.hl = s.de ∧ t.de = s.hl ∧
      t = { s with d := t.d, e := t.e, h := t.h, l := t.l }) ∧
    exec .sphl s = .next { s with sp := s.hl } ∧
    (∀ v, ∃ t, exec (.ldhi v) s = .next t ∧ t.de.toNat = (s.hl.toNat + v.toNat) % 65536 ∧
      t = { s with d := t.d, e := t.e }) ∧
    (∀ v, ∃ t, exec (.ldsi v) s = .next t ∧ t.de.toNat = (s.sp.toNat + v.toNat) % 65536 ∧
      t = { s with d := t.d, e := t.e })

/-- JMP, PCHL and the eight conditional jumps: PC by the condition, nothing else (43_branch.md
R300 to R309 and R329). -/
def Obligations.Jumps : Prop :=
  (∀ x, encode (.jmp x) = [0b11000011, Word.lo x, Word.hi x]) ∧ encode .pchl = [0b11101001] ∧
  (∀ p ∈ jumps, ∀ x, encode (p.2 x) = [0b11#2 ++ p.1 ++ 0b010#3, Word.lo x, Word.hi x]) ∧
  ∀ s : State,
    (∀ x, exec (.jmp x) s = .next { s with pc := x }) ∧
    exec .pchl s = .next { s with pc := s.hl } ∧
    ∀ p ∈ jumps, ∀ x, exec (p.2 x) s = .next (if condMet p.1 s.f then { s with pc := x } else s)

/-- CALL, the eight conditional calls and RST: return address pushed, PC at the target (R310,
R311, R312, R313, R314, R315, R316, R317, R318, R328). -/
def Obligations.Calls : Prop :=
  (∀ x, encode (.call x) = [0b11001101, Word.lo x, Word.hi x]) ∧
  (∀ n, encode (.rst n) = [0b11#2 ++ n ++ 0b111#3]) ∧
  (∀ p ∈ calls, ∀ x, encode (p.2 x) = [0b11#2 ++ p.1 ++ 0b100#3, Word.lo x, Word.hi x]) ∧
  ∀ s : State,
    (∀ x, ∃ t, exec (.call x) s = .next t ∧ Called s t x) ∧
    (∀ n, ∃ t, exec (.rst n) s = .next t ∧ Called s t (BitVec.ofNat 16 (8 * n.toNat))) ∧
    ∀ p ∈ calls, ∀ x, ∃ t, exec (p.2 x) s = .next t ∧
      (condMet p.1 s.f = true → Called s t x) ∧ (condMet p.1 s.f = false → t = s)

/-- RET and the eight conditional returns: PC popped, SP up by 2 (R319, R320, R321, R322, R323,
R324, R325, R326, R327). -/
def Obligations.Returns : Prop :=
  encode .ret = [0b11001001] ∧ (∀ p ∈ returns, encode p.2 = [0b11#2 ++ p.1 ++ 0b000#3]) ∧
  ∀ s : State,
    (∃ t, exec .ret s = .next t ∧ Returned s t) ∧
    ∀ p ∈ returns, ∃ t, exec p.2 s = .next t ∧
      (condMet p.1 s.f = true → Returned s t) ∧ (condMet p.1 s.f = false → t = s)

/-- PUSH rp and PUSH PSW: two bytes below SP, everything else kept (R350, R351). -/
def Obligations.PushForms : Prop :=
  (∀ rp, encode (.push rp) = [0b11#2 ++ rp.code ++ 0b0101#4]) ∧ encode .pushPsw = [0b11110101] ∧
  ∀ s : State,
    (∀ p ∈ [(Instr.push .bc, s.b, s.c), (.push .de, s.d, s.e), (.push .hl, s.h, s.l), (.pushPsw, s.a, s.f)],
      ∃ t, exec p.1 s = .next t ∧ Stored2 s t (s.sp - 2#16) (p.2.1 ++ p.2.2) ∧
        t = { s with
          sp := s.sp - 2#16, mem := t.mem
          events := .memWrite (s.sp - 2#16) p.2.2 :: .memWrite (s.sp - 1#16) p.2.1 :: s.events })

/-- POP rp and POP PSW: two bytes from SP, F as the variant keeps it (R352, R353). -/
def Obligations.PopForms : Prop :=
  (∀ rp, encode (.pop rp) = [0b11#2 ++ rp.code ++ 0b0001#4]) ∧ encode .popPsw = [0b11110001] ∧
  ∀ s : State,
    (∃ t, exec (.pop .bc) s = .next t ∧ Loaded2 s s.sp t.bc t.draws ∧
      t = { s with
        b := t.b, c := t.c, sp := s.sp + 2#16, draws := t.draws
        events := loaded2Events s.sp t.bc ++ s.events }) ∧
    (∃ t, exec (.pop .de) s = .next t ∧ Loaded2 s s.sp t.de t.draws ∧
      t = { s with
        d := t.d, e := t.e, sp := s.sp + 2#16, draws := t.draws
        events := loaded2Events s.sp t.de ++ s.events }) ∧
    (∃ t, exec (.pop .hl) s = .next t ∧ Loaded2 s s.sp t.hl t.draws ∧
      t = { s with
        h := t.h, l := t.l, sp := s.sp + 2#16, draws := t.draws
        events := loaded2Events s.sp t.hl ++ s.events }) ∧
    (∃ t v n, exec .popPsw s = .next t ∧ Loaded2 s s.sp v n ∧ t.a = Word.hi v ∧
      (∀ k ∈ [7, 6, 4, 2, 0], t.f.getLsbD k = (Word.lo v).getLsbD k) ∧
      UndocAfter { s with draws := n } t ∧
      t = { s with
        a := t.a, f := t.f, sp := s.sp + 2#16, draws := t.draws
        events := loaded2Events s.sp v ++ s.events })

/-- XTHL: HL and the two bytes at SP change places (R354). -/
def Obligations.XthlExchanges : Prop :=
  encode .xthl = [0b11100011] ∧ ∀ s : State, ∃ t, exec .xthl s = .next t ∧
    Loaded2 s s.sp t.hl t.draws ∧ Stored2 s t s.sp s.hl ∧
    t = { s with
      h := t.h, l := t.l, mem := t.mem, draws := t.draws
      events := .memWrite s.sp s.l :: .memWrite (s.sp + 1#16) s.h ::
        loaded2Events s.sp t.hl ++ s.events }

/-- POP after PUSH moves a pair, RET after CALL or RST returns, and SP is restored (20_memory.md
R95, 44_stack_io_control.md R350 and R352, 43_branch.md R330). -/
def Obligations.StackRoundTrips : Prop :=
  (∀ (s : State) (p q : StackPair), s.mem.wf = true →
     s.cfg.isDevice (s.sp - 1#16) = false → s.cfg.isDevice (s.sp - 2#16) = false →
     ∃ t, execAll [.push p, .pop q] s = .next t ∧
       PairSet s t (pairOfStack q) (s.pair (pairOfStack p)) ∧ t.f = s.f ∧ t.draws = s.draws ∧
       t.pc = s.pc) ∧
  (∀ (s : State) (i : Instr), s.mem.wf = true →
     s.cfg.isDevice (s.sp - 1#16) = false → s.cfg.isDevice (s.sp - 2#16) = false →
     ((∃ x, i = .call x) ∨ (∃ n, i = .rst n)) →
     ∃ t, execAll [i, .ret] s = .next t ∧
       t = { s with mem := t.mem, events := t.events })

/-- A 16-bit read after a 16-bit write at the same address gives the value written, in canonical
plain RAM (R84). -/
def Obligations.SixteenBitMemoryRoundTrip : Prop :=
  ∀ (s : State) (x v : Word), s.mem.wf = true → s.cfg.isDevice x = false →
    s.cfg.isDevice (x + 1#16) = false →
    (memRead16 x (memWrite16 x v s)).1 = v ∧
    (memRead x (memWrite16 x v s)).1 = Word.lo v ∧
    (memRead (x + 1#16) (memWrite16 x v s)).1 = Word.hi v ∧
    (memRead16 x s).2.events = loaded2Events x (memRead16 x s).1 ++ s.events ∧
    (memWrite16 x v s).events =
      .memWrite (x + 1#16) (Word.hi v) :: .memWrite x (Word.lo v) :: s.events

/-- IN and OUT: one IO access at the address of the port (R356, R357, R82). -/
def Obligations.PortInputAndOutput : Prop :=
  (∀ p, encode (.inPort p) = [0b11011011, p]) ∧ (∀ p, encode (.outPort p) = [0b11010011, p]) ∧
  ∀ (s : State) (p : Byte), ∃ x : Word,
    (s.cfg.ioForm = .port8 → x.toNat = p.toNat) ∧
    (s.cfg.ioForm = .portDuplicated → x.toNat = p.toNat * 256 + p.toNat) ∧
    (∃ t, exec (.inPort p) s = .next t ∧
      (∀ v, lookupCell x.toNat s.ioIn = some v → t.a = v ∧ t.draws = s.draws) ∧
      (lookupCell x.toNat s.ioIn = none →
        t.a = (Config.freeValue s.draws).setWidth 8 ∧ t.draws = s.draws + 1) ∧
      t = { s with a := t.a, draws := t.draws, events := .ioRead x t.a :: s.events }) ∧
    exec (.outPort p) s = .next { s with events := .ioWrite x s.a :: s.events }

/-- EI, DI, HLT and NOP: the control bits they write (R358, R359, R360, R361). -/
def Obligations.EnableDisableHaltNop : Prop :=
  encode .ei = [0b11111011] ∧ encode .di = [0b11110011] ∧ encode .hlt = [0b01110110] ∧
  encode .nop = [0b00000000] ∧
  ∀ s : State,
    exec .ei s = .next { s with
      ie := true, eiDelay := true, events := .inteChanged true :: s.events } ∧
    exec .di s = .next { s with ie := false, events := .inteChanged false :: s.events } ∧
    exec .hlt s = .next { s with halt := true } ∧ exec .nop s = .next s ∧
    (s.eiDelay = false → arbitrate s = none → s.halt = true → step s = .next s)

/-- RIM and SIM: the masks, pending bits, TRAP copy, SID and SOD, and nothing else. That the SID
register takes the sampled bit is R48; that it also takes the free bit RIM samples without a
hook, with no call seen, is the model's reading (log 8, DEDUCED) (44_stack_io_control.md R362,
44_stack_io_control.md R363, 10_state.md R48). -/
def Obligations.RimAndSim : Prop :=
  (encode .rim = [0b00100000] ∧ ∀ s : State, ∃ t, exec .rim s = .next t ∧
     (∀ v, s.sidIn = some v → t.a.getLsbD 7 = v ∧ t.draws = s.draws ∧
       t.events = .sidRead v :: s.events) ∧
     (s.sidIn = none → t.a.getLsbD 7 = (Config.freeValue s.draws).getLsbD 0 ∧
       t.draws = s.draws + 1 ∧ t.events = s.events) ∧
     t.a.getLsbD 6 = s.p75 ∧ t.a.getLsbD 5 = s.rst65Line ∧ t.a.getLsbD 4 = s.rst55Line ∧
     (s.trapCopyValid = true → t.a.toNat % 16 = s.trapImCopy.toNat) ∧
     (s.trapCopyValid = false → t.a.getLsbD 3 = s.ie ∧ t.a.toNat % 8 = s.im.toNat) ∧
     t = { s with
       a := t.a, sid := t.a.getLsbD 7, trapCopyValid := false, draws := t.draws
       events := t.events }) ∧
  (encode .sim = [0b00110000] ∧ ∀ s : State, ∃ t, exec .sim s = .next t ∧
     t.im.toNat = (if s.a.getLsbD 3 then s.a.toNat % 8 else s.im.toNat) ∧
     t.p75 = (s.p75 && !s.a.getLsbD 4) ∧
     t.sod = (if s.a.getLsbD 6 then s.a.getLsbD 7 else s.sod) ∧
     t.events = (if s.a.getLsbD 6 then [.sodChanged (s.a.getLsbD 7)] else []) ++ s.events ∧
     t = { s with im := t.im, p75 := t.p75, sod := t.sod, events := t.events })

/-- The 8080 aliases act as NOP, JMP, RET and CALL (R400, R401, R402, R403). -/
def Obligations.AliasesOf8080 : Prop :=
  (∀ k, encode (.nopAlias k) = [0b00#2 ++ k ++ 0b000#3]) ∧
  (∀ x, encode (.jmpAlias x) = [0b11001011, Word.lo x, Word.hi x]) ∧
  encode .retAlias = [0b11011001] ∧
  (∀ k x, encode (.callAlias k x) = [0b11#2 ++ k ++ 0b1101#4, Word.lo x, Word.hi x]) ∧
  (∀ k, (Instr.nopAlias k).wf .i8080 = true ↔ k ≠ 0) ∧
  (∀ k x, (Instr.callAlias k x).wf .i8080 = true ↔ k ≠ 0) ∧
  ∀ s : State,
    (∀ k, exec (.nopAlias k) s = .next s) ∧
    (∀ x, exec (.jmpAlias x) s = .next { s with pc := x }) ∧
    (∃ t, exec .retAlias s = .next t ∧ Returned s t) ∧
    (∀ k x, ∃ t, exec (.callAlias k x) s = .next t ∧ Called s t x)

/-- DSUB, ARHL and RDEL: 16-bit results and the flags each writes (R410, R411, R412). -/
def Obligations.DoubleWordArithmetic8085 : Prop :=
  encode .dsub = [0b00001000] ∧ encode .arhl = [0b00010000] ∧ encode .rdel = [0b00011000] ∧
  ∀ s : State,
    (∃ t, exec .dsub s = .next t ∧
      (t.hl.toNat : Int) = ((s.hl.toNat : Int) - s.bc.toNat) % 65536 ∧
      t.f.getLsbD 0 = decide (s.hl.toNat < s.bc.toNat) ∧
      t.f.getLsbD 6 = decide (s.hl = s.bc) ∧ t.f.getLsbD 7 = t.h.getLsbD 7 ∧
      t.f.getLsbD 4 = (Config.freeValue s.draws).getLsbD 0 ∧
      t.f.getLsbD 2 = (Config.freeValue (s.draws + 1)).getLsbD 0 ∧
      UndocAfter { s with draws := s.draws + 2 } t ∧
      t = { s with h := t.h, l := t.l, f := t.f, draws := t.draws }) ∧
    (∃ t, exec .arhl s = .next t ∧
      t.hl.toNat = s.hl.toNat / 2 + 32768 * (s.h.getLsbD 7).toNat ∧
      CarryOnly s t (s.l.getLsbD 0) ∧
      t = { s with h := t.h, l := t.l, f := t.f, draws := t.draws }) ∧
    (∃ t, exec .rdel s = .next t ∧
      t.de.toNat = (2 * s.de.toNat + (s.f.getLsbD 0).toNat) % 65536 ∧
      CarryOnly s t (s.d.getLsbD 7) ∧
      t = { s with d := t.d, e := t.e, f := t.f, draws := t.draws })

/-- RSTV, JNK and JK: taken by V or K, nothing changed otherwise (R415, R417, R419). -/
def Obligations.OverflowAndKTransfers8085 : Prop :=
  encode .rstv = [0b11001011] ∧
  (∀ x, encode (.jnk x) = [0b11011101, Word.lo x, Word.hi x]) ∧
  (∀ x, encode (.jk x) = [0b11111101, Word.lo x, Word.hi x]) ∧
  ∀ s : State,
    (∃ t, exec .rstv s = .next t ∧ (s.f.getLsbD 1 = true → Called s t 0x0040) ∧
      (s.f.getLsbD 1 = false → t = s)) ∧
    (∀ x, exec (.jnk x) s = .next (if s.f.getLsbD 5 = false then { s with pc := x } else s)) ∧
    (∀ x, exec (.jk x) s = .next (if s.f.getLsbD 5 = true then { s with pc := x } else s))

/-- Every instruction completes from every state: none faults and none is refused
(60_exceptions.md R450, 30_encoding.md R131). -/
def Obligations.ExecAlwaysCompletes : Prop :=
  ∀ (i : Instr) (s : State), ∃ t, exec i s = .next t

/-- Under HARDWARE, with an admitted acknowledge, a run of any length completes (60_exceptions.md
R450, 30_encoding.md R131, 60_exceptions.md R466). -/
def Obligations.RunsNeverStop : Prop :=
  ∀ (n : Nat) (s : State), s.cfg.undoc = .hardware → s.AcknowledgeAdmitted → RunsSafely n s

/-- Each instruction makes exactly the data accesses of the R91 table, in its order, after
fetching its bytes (R91). -/
def Obligations.AccessOrder : Prop :=
  (∀ s : State, ∃ n, n = (opLength s.cfg.variant (memRead s.pc s).1).toNat ∧
    Accesses s (fetchInstr s).2 ((List.range n).map fun k => .rd (s.pc + BitVec.ofNat 16 k))) ∧
  (∀ (i : Instr) (s t : State), exec i s = .next t → Accesses s t (dataAccesses i s)) ∧
  (∀ (src : Source) (s t : State), enter src s = .next t → Accesses s t (pushAccesses s))

/-- A byte of memory changes only where an instruction of the R91 table writes (20_memory.md R87,
20_memory.md R91). -/
def Obligations.OnlyWrittenBytesChange : Prop :=
  ∀ (i : Instr) (s t : State) (y : Nat), exec i s = .next t → t.mem.read y ≠ s.mem.read y →
    ∃ x : Word, x.toNat = y ∧ .wr x ∈ dataAccesses i s

/-- Which instructions write IE, IM, P75, TRAPL, the TRAP copy, SOD, HALT and ei_delay. That exec
never writes STATUS is the model's choice to write it in the step (log 4, DESIGN CHOICE); R51
has each machine cycle synthesize it (10_state.md section 4, 10_state.md section 5). -/
def Obligations.ControlStateWriters : Prop :=
  ∀ (i : Instr) (s t : State), exec i s = .next t →
    (t.ie ≠ s.ie → i = .ei ∨ i = .di) ∧
    (t.im ≠ s.im → i = .sim ∧ s.a.getLsbD 3 = true) ∧
    (t.p75 ≠ s.p75 → i = .sim ∧ s.a.getLsbD 4 = true ∧ t.p75 = false) ∧
    (t.trapCopyValid ≠ s.trapCopyValid → i = .rim ∧ t.trapCopyValid = false) ∧
    (t.sod ≠ s.sod → i = .sim ∧ s.a.getLsbD 6 = true) ∧
    (t.halt ≠ s.halt → i = .hlt) ∧ (t.eiDelay ≠ s.eiDelay → i = .ei) ∧
    t.trapLatch = s.trapLatch ∧ t.trapImCopy = s.trapImCopy ∧ t.intrLine = s.intrLine ∧
    t.rst55Line = s.rst55Line ∧ t.rst65Line = s.rst65Line ∧ t.rst75Line = s.rst75Line ∧
    t.trapLine = s.trapLine ∧ t.cfg = s.cfg ∧ t.status = s.status ∧ t.sidIn = s.sidIn ∧
    t.inta = s.inta ∧ t.ioIn = s.ioIn

/-- An I8080 and an I8080A in the same state take the same steps (R3). -/
def Obligations.I8080AndI8080ABehaveAlike : Prop :=
  ∀ s : State, s.cfg.variant = .i8080 →
    (∀ t, step s = .next t → t.cfg.variant = .i8080 ∧ step (as8080A s) = .next (as8080A t)) ∧
    (∀ r, step s = .refused r → step (as8080A s) = .refused r) ∧
    (∀ budget, stepCost budget (as8080A s) = stepCost budget s)

/-- Arbitration takes the first source of R458 whose condition holds (60_exceptions.md R458). -/
def Obligations.ArbitrationPriority : Prop :=
  ∀ s : State, ∃ c75 c65 c55 ci : Bool,
    c75 = (s.ie && s.p75 && !s.im.getLsbD 2) ∧ c65 = (s.ie && s.rst65Line && !s.im.getLsbD 1) ∧
    c55 = (s.ie && s.rst55Line && !s.im.getLsbD 0) ∧ ci = (s.ie && s.intrLine) ∧
    (s.cfg.variant ≠ .i8085a → arbitrate s = if ci then some .intr else none) ∧
    (s.cfg.variant = .i8085a →
      (arbitrate s = some .trap ↔ s.trapLatch = true) ∧
      (arbitrate s = some .rst75 ↔ (s.trapLatch, c75) = (false, true)) ∧
      (arbitrate s = some .rst65 ↔ (s.trapLatch, c75, c65) = (false, false, true)) ∧
      (arbitrate s = some .rst55 ↔ (s.trapLatch, c75, c65, c55) = (false, false, false, true)) ∧
      (arbitrate s = some .intr ↔
        (s.trapLatch, c75, c65, c55, ci) = (false, false, false, false, true)) ∧
      (arbitrate s = none ↔
        (s.trapLatch, c75, c65, c55, ci) = (false, false, false, false, false)))

/-- A latched TRAP is taken at the arbitration point: copy, push, 0x0024, latch cleared (R461,
R460). -/
def Obligations.TrapEntry : Prop :=
  ∀ s : State, s.cfg.variant = .i8085a → s.eiDelay = false → s.trapLatch = true →
    ∃ t, step s = .next t ∧ Stored2 s t (s.sp - 2#16) s.pc ∧
      t = { s with
        pc := 0x0024#16, trapImCopy := BitVec.ofBool s.ie ++ s.im, trapCopyValid := true
        trapLatch := false, sp := s.sp - 2#16, ie := false, halt := false, mem := t.mem
        status := t.status, draws := t.draws
        events := .memWrite (s.sp - 2#16) (Word.lo s.pc) ::
          .memWrite (s.sp - 1#16) (Word.hi s.pc) :: .inteChanged false :: s.events }

/-- RST7.5, RST6.5 and RST5.5 entries: push, fixed address, IE cleared (R462, R463, R464, R460). -/
def Obligations.RstEntries : Prop :=
  ∀ s : State, s.eiDelay = false →
    ∀ p ∈ [(Source.rst75, 0x003C#16, false), (.rst65, 0x0034#16, s.p75), (.rst55, 0x002C#16, s.p75)],
    arbitrate s = some p.1 →
    ∃ t, step s = .next t ∧ Stored2 s t (s.sp - 2#16) s.pc ∧
      t = { s with
        pc := p.2.1, p75 := p.2.2, sp := s.sp - 2#16, ie := false, halt := false, mem := t.mem
        status := t.status, draws := t.draws
        events := .memWrite (s.sp - 2#16) (Word.lo s.pc) ::
          .memWrite (s.sp - 1#16) (Word.hi s.pc) :: .inteChanged false :: s.events }

/-- INTR entry: the acknowledge gives RST n or CALL a16, anything else is refused (R465, R466). -/
def Obligations.IntrEntry : Prop :=
  ∀ s : State, s.eiDelay = false → arbitrate s = some .intr →
    (s.inta = none → step s = .refused .noAcknowledge) ∧
    (∀ bytes, s.inta = some bytes → (∀ n : BitVec 3, bytes ≠ [0b11#2 ++ n ++ 0b111#3]) →
      (∀ lo hi, bytes ≠ [0xCD#8, lo, hi]) → step s = .refused .unsupportedAcknowledge) ∧
    (∀ bytes target, s.inta = some bytes →
      ((∃ n : BitVec 3, bytes = [0b11#2 ++ n ++ 0b111#3] ∧ target = BitVec.ofNat 16 (8 * n.toNat)) ∨
        (∃ lo hi, bytes = [0xCD#8, lo, hi] ∧ target = hi ++ lo)) →
      ∃ t, step s = .next t ∧ Stored2 s t (s.sp - 2#16) s.pc ∧
        t = { s with
          pc := target, sp := s.sp - 2#16, ie := false, halt := false, mem := t.mem
          status := t.status, draws := t.draws
          events := .memWrite (s.sp - 2#16) (Word.lo s.pc) ::
            .memWrite (s.sp - 1#16) (Word.hi s.pc) :: .acknowledge bytes :: .inteChanged false ::
            s.events })

/-- The step after EI takes no interrupt; it runs the one instruction fetched at PC, or is refused
where UNDOC_OPCODES = REFUSE refuses that instruction, and ends the grace period. The fresh
STATUS in which it is fetched is the model's choice (log 4), and so is the refusal after the
whole instruction is fetched (log 21) (60_exceptions.md R457, 60_exceptions.md R459,
45_undocumented.md R420). -/
def Obligations.GracePeriod : Prop :=
  ∀ s : State, s.eiDelay = true →
    (s.halt = true → step s = .next { s with eiDelay := false }) ∧
    (s.halt = false → ∃ i u, fetchInstr { s with
        eiDelay := false, status := (Config.freeValue s.draws).setWidth 8, draws := s.draws + 1 } = (i, u) ∧
      (s.cfg.undoc = .hardware → refusesOpcode s.cfg i = false) ∧
      (refusesOpcode s.cfg i = true → step s = .refused .undocumentedOpcode) ∧
      (refusesOpcode s.cfg i = false →
        ∃ t, step s = .next t ∧ exec i u = .next t ∧ (i ≠ .ei → t.eiDelay = false)))

/-- A step leaves HALT only by an interrupt entry; with none to take, any run changes nothing
(60_exceptions.md R469, 60_exceptions.md R457, 70_reset_and_hazards.md R525). -/
def Obligations.HaltIsLeftOnlyByAnEntry : Prop :=
  (∀ s t : State, s.halt = true → step s = .next t → t.halt = false →
     s.eiDelay = false ∧ ∃ src, arbitrate s = some src ∧ enter src (synthStatus s) = .next t) ∧
  (∀ s : State, s.halt = true → s.eiDelay = false → arbitrate s = none →
     (∀ n, Host.Core.run Sys2Proof.core n s = .next s) ∧ (∀ fuel budget, run fuel budget s = .next s))

/-- TRAPL is set only by a rising edge of the line and cleared by its one entry (60_exceptions.md
R453, 60_exceptions.md R461). -/
def Obligations.TrapIsServicedOncePerEdge : Prop :=
  (∀ (n : Nat) (s t : State), s.trapLatch = false → Host.Core.run Sys2Proof.core n s = .next t →
    t.trapLatch = false) ∧
  (∀ s t : State, s.cfg.variant = .i8085a → s.trapLatch = true → s.eiDelay = false →
    step s = .next t → t.trapLatch = false ∧ t.pc = 0x0024#16) ∧
  (∀ (line : Source) (level : Nat) (s t : State), setInput line level s = .next t →
    t.trapLatch = (s.trapLatch || decide (line = .trap ∧ s.trapLine = false ∧ level = 1)))

/-- execute_set_input: the level kept, the edge latches, refusals (R452, R475). -/
def Obligations.SetInputLines : Prop :=
  ∀ (s : State) (level : Nat),
    (level ≤ 1 → setInput .intr level s = .next { s with intrLine := decide (level = 1) }) ∧
    (level ≤ 1 → s.cfg.variant = .i8085a →
      setInput .rst55 level s = .next { s with rst55Line := decide (level = 1) } ∧
      setInput .rst65 level s = .next { s with rst65Line := decide (level = 1) } ∧
      setInput .rst75 level s = .next { s with
        rst75Line := decide (level = 1)
        p75 := if s.rst75Line = false ∧ level = 1 then true else s.p75 } ∧
      setInput .trap level s = .next { s with
        trapLine := decide (level = 1)
        trapLatch := if s.trapLine = false ∧ level = 1 then true else s.trapLatch }) ∧
    (∀ line, level > 1 ∨ (s.cfg.variant ≠ .i8085a ∧ line ≠ .intr) →
      setInput line level s = .refused .invalidInputLine)

/-- Each import writes its register and no other, an export answers what was imported, and
importing an export changes nothing but the callbacks seen. That a wider value is cut to its
low bits and that an 8080 variant ignores an import of SOD, SID or IM is the model's choice
(log 15, DESIGN CHOICE); that an import of SOD fires its callback is log 16 (DEDUCED)
(10_state.md R55, 10_state.md R35, 10_state.md R47, 10_state.md R48, 10_state.md R52). -/
def Obligations.ImportOfAnExport : Prop :=
  ∀ s : State,
    (s.Inv → ∀ r, { importReg r (exportReg s r) s with events := s.events } = s) ∧
    (∀ r v, (s.cfg.variant = .i8085a ∨ r ∉ [.af, .f, .sod, .sid, .im]) →
      (exportReg (importReg r v s) r).toNat = v.toNat % 2 ^ namedWidth r) ∧
    ∀ v, importReg .pc v s = { s with pc := v } ∧ importReg .sp v s = { s with sp := v } ∧
      (∃ t, importReg .bc v s = t ∧ t = { s with b := t.b, c := t.c } ∧ t.b ++ t.c = v) ∧
      (∃ t, importReg .de v s = t ∧ t = { s with d := t.d, e := t.e } ∧ t.d ++ t.e = v) ∧
      (∃ t, importReg .hl v s = t ∧ t = { s with h := t.h, l := t.l } ∧ t.h ++ t.l = v) ∧
      (∀ r, ∃ t, importReg (.half r) v s = t ∧ RegSet s t r (Word.lo v) ∧ OnlyRegs s t) ∧
      (∃ t, importReg .af v s = t ∧ t = { s with a := Word.hi v, f := t.f } ∧ ImportedF s t v) ∧
      (∃ t, importReg .f v s = t ∧ t = { s with f := t.f } ∧ ImportedF s t v) ∧
      importReg .status v s = { s with status := Word.lo v } ∧
      importReg .halt v s = { s with halt := v.getLsbD 0 } ∧
      importReg .inte v s =
        { s with ie := v.getLsbD 0, events := .inteChanged (v.getLsbD 0) :: s.events } ∧
      (s.cfg.variant = .i8085a →
        importReg .sod v s =
          { s with sod := v.getLsbD 0, events := .sodChanged (v.getLsbD 0) :: s.events } ∧
        importReg .sid v s = { s with sid := v.getLsbD 0 } ∧
        importReg .im v s = { s with im := v.setWidth 3 }) ∧
      (s.cfg.variant ≠ .i8085a →
        importReg .sod v s = s ∧ importReg .sid v s = s ∧ importReg .im v s = s)
end

