-- ==== Sys2Proof/Laws/Flags.lean ====
section
/-!
SUPPORT. What each flag computation does to each bit of F, and the carries of Add8 and Sub8 as
arithmetic on numbers.
-/

namespace Sys2Proof.Machine

/-! ### One flag replaced -/

@[simp] theorem flagS_putS (v : Bool) (f : Byte) : flagS (putS v f) = v := by
  cases v <;> simp [flagS, putS, putBit]

@[simp] theorem flagZ_putS (v : Bool) (f : Byte) : flagZ (putS v f) = flagZ f := by
  cases v <;> simp [flagZ, putS, putBit]

@[simp] theorem flagK_putS (v : Bool) (f : Byte) : flagK (putS v f) = flagK f := by
  cases v <;> simp [flagK, putS, putBit]

@[simp] theorem flagAC_putS (v : Bool) (f : Byte) : flagAC (putS v f) = flagAC f := by
  cases v <;> simp [flagAC, putS, putBit]

@[simp] theorem flagX3_putS (v : Bool) (f : Byte) : flagX3 (putS v f) = flagX3 f := by
  cases v <;> simp [flagX3, putS, putBit]

@[simp] theorem flagP_putS (v : Bool) (f : Byte) : flagP (putS v f) = flagP f := by
  cases v <;> simp [flagP, putS, putBit]

@[simp] theorem flagV_putS (v : Bool) (f : Byte) : flagV (putS v f) = flagV f := by
  cases v <;> simp [flagV, putS, putBit]

@[simp] theorem flagCY_putS (v : Bool) (f : Byte) : flagCY (putS v f) = flagCY f := by
  cases v <;> simp [flagCY, putS, putBit]

@[simp] theorem flagS_putZ (v : Bool) (f : Byte) : flagS (putZ v f) = flagS f := by
  cases v <;> simp [flagS, putZ, putBit]

@[simp] theorem flagZ_putZ (v : Bool) (f : Byte) : flagZ (putZ v f) = v := by
  cases v <;> simp [flagZ, putZ, putBit]

@[simp] theorem flagK_putZ (v : Bool) (f : Byte) : flagK (putZ v f) = flagK f := by
  cases v <;> simp [flagK, putZ, putBit]

@[simp] theorem flagAC_putZ (v : Bool) (f : Byte) : flagAC (putZ v f) = flagAC f := by
  cases v <;> simp [flagAC, putZ, putBit]

@[simp] theorem flagX3_putZ (v : Bool) (f : Byte) : flagX3 (putZ v f) = flagX3 f := by
  cases v <;> simp [flagX3, putZ, putBit]

@[simp] theorem flagP_putZ (v : Bool) (f : Byte) : flagP (putZ v f) = flagP f := by
  cases v <;> simp [flagP, putZ, putBit]

@[simp] theorem flagV_putZ (v : Bool) (f : Byte) : flagV (putZ v f) = flagV f := by
  cases v <;> simp [flagV, putZ, putBit]

@[simp] theorem flagCY_putZ (v : Bool) (f : Byte) : flagCY (putZ v f) = flagCY f := by
  cases v <;> simp [flagCY, putZ, putBit]

@[simp] theorem flagS_putAC (v : Bool) (f : Byte) : flagS (putAC v f) = flagS f := by
  cases v <;> simp [flagS, putAC, putBit]

@[simp] theorem flagZ_putAC (v : Bool) (f : Byte) : flagZ (putAC v f) = flagZ f := by
  cases v <;> simp [flagZ, putAC, putBit]

@[simp] theorem flagK_putAC (v : Bool) (f : Byte) : flagK (putAC v f) = flagK f := by
  cases v <;> simp [flagK, putAC, putBit]

@[simp] theorem flagAC_putAC (v : Bool) (f : Byte) : flagAC (putAC v f) = v := by
  cases v <;> simp [flagAC, putAC, putBit]

@[simp] theorem flagX3_putAC (v : Bool) (f : Byte) : flagX3 (putAC v f) = flagX3 f := by
  cases v <;> simp [flagX3, putAC, putBit]

@[simp] theorem flagP_putAC (v : Bool) (f : Byte) : flagP (putAC v f) = flagP f := by
  cases v <;> simp [flagP, putAC, putBit]

@[simp] theorem flagV_putAC (v : Bool) (f : Byte) : flagV (putAC v f) = flagV f := by
  cases v <;> simp [flagV, putAC, putBit]

@[simp] theorem flagCY_putAC (v : Bool) (f : Byte) : flagCY (putAC v f) = flagCY f := by
  cases v <;> simp [flagCY, putAC, putBit]

@[simp] theorem flagS_putP (v : Bool) (f : Byte) : flagS (putP v f) = flagS f := by
  cases v <;> simp [flagS, putP, putBit]

@[simp] theorem flagZ_putP (v : Bool) (f : Byte) : flagZ (putP v f) = flagZ f := by
  cases v <;> simp [flagZ, putP, putBit]

@[simp] theorem flagK_putP (v : Bool) (f : Byte) : flagK (putP v f) = flagK f := by
  cases v <;> simp [flagK, putP, putBit]

@[simp] theorem flagAC_putP (v : Bool) (f : Byte) : flagAC (putP v f) = flagAC f := by
  cases v <;> simp [flagAC, putP, putBit]

@[simp] theorem flagX3_putP (v : Bool) (f : Byte) : flagX3 (putP v f) = flagX3 f := by
  cases v <;> simp [flagX3, putP, putBit]

@[simp] theorem flagP_putP (v : Bool) (f : Byte) : flagP (putP v f) = v := by
  cases v <;> simp [flagP, putP, putBit]

@[simp] theorem flagV_putP (v : Bool) (f : Byte) : flagV (putP v f) = flagV f := by
  cases v <;> simp [flagV, putP, putBit]

@[simp] theorem flagCY_putP (v : Bool) (f : Byte) : flagCY (putP v f) = flagCY f := by
  cases v <;> simp [flagCY, putP, putBit]

@[simp] theorem flagS_putCY (v : Bool) (f : Byte) : flagS (putCY v f) = flagS f := by
  cases v <;> simp [flagS, putCY, putBit]

@[simp] theorem flagZ_putCY (v : Bool) (f : Byte) : flagZ (putCY v f) = flagZ f := by
  cases v <;> simp [flagZ, putCY, putBit]

@[simp] theorem flagK_putCY (v : Bool) (f : Byte) : flagK (putCY v f) = flagK f := by
  cases v <;> simp [flagK, putCY, putBit]

@[simp] theorem flagAC_putCY (v : Bool) (f : Byte) : flagAC (putCY v f) = flagAC f := by
  cases v <;> simp [flagAC, putCY, putBit]

@[simp] theorem flagX3_putCY (v : Bool) (f : Byte) : flagX3 (putCY v f) = flagX3 f := by
  cases v <;> simp [flagX3, putCY, putBit]

@[simp] theorem flagP_putCY (v : Bool) (f : Byte) : flagP (putCY v f) = flagP f := by
  cases v <;> simp [flagP, putCY, putBit]

@[simp] theorem flagV_putCY (v : Bool) (f : Byte) : flagV (putCY v f) = flagV f := by
  cases v <;> simp [flagV, putCY, putBit]

@[simp] theorem flagCY_putCY (v : Bool) (f : Byte) : flagCY (putCY v f) = v := by
  cases v <;> simp [flagCY, putCY, putBit]

/-! ### SetSZP -/

/-- The bits of the ZSP table (10_state.md R54). -/
theorem zsp_bits (res : Byte) :
    (zsp res).getLsbD 7 = res.getLsbD 7 ∧ (zsp res).getLsbD 6 = decide (res = 0x00#8) ∧
    (zsp res).getLsbD 2 = decide (popcount res % 2 = 0) ∧ (zsp res).getLsbD 5 = false ∧
    (zsp res).getLsbD 4 = false ∧ (zsp res).getLsbD 3 = false ∧ (zsp res).getLsbD 1 = false ∧
    (zsp res).getLsbD 0 = false := by
  unfold zsp zs
  split <;> rename_i hz <;> split <;> rename_i h7 <;> split <;> rename_i hp <;> simp_all

@[simp] theorem flagS_setSZP (res f : Byte) : flagS (setSZP res f) = res.getLsbD 7 := by
  have h := (zsp_bits res).1
  simp_all [flagS, setSZP]

@[simp] theorem flagZ_setSZP (res f : Byte) : flagZ (setSZP res f) = decide (res = 0x00#8) := by
  have h := (zsp_bits res).2.1
  simp_all [flagZ, setSZP]

@[simp] theorem flagK_setSZP (res f : Byte) : flagK (setSZP res f) = flagK f := by
  have h := (zsp_bits res).2.2.2.1
  simp_all [flagK, setSZP]

@[simp] theorem flagAC_setSZP (res f : Byte) : flagAC (setSZP res f) = flagAC f := by
  have h := (zsp_bits res).2.2.2.2.1
  simp_all [flagAC, setSZP]

@[simp] theorem flagX3_setSZP (res f : Byte) : flagX3 (setSZP res f) = flagX3 f := by
  have h := (zsp_bits res).2.2.2.2.2.1
  simp_all [flagX3, setSZP]

@[simp] theorem flagP_setSZP (res f : Byte) : flagP (setSZP res f) = decide (popcount res % 2 = 0) := by
  have h := (zsp_bits res).2.2.1
  simp_all [flagP, setSZP]

@[simp] theorem flagV_setSZP (res f : Byte) : flagV (setSZP res f) = flagV f := by
  have h := (zsp_bits res).2.2.2.2.2.2.1
  simp_all [flagV, setSZP]

@[simp] theorem flagCY_setSZP (res f : Byte) : flagCY (setSZP res f) = flagCY f := by
  have h := (zsp_bits res).2.2.2.2.2.2.2
  simp_all [flagCY, setSZP]

/-! ### The undocumented bits -/

/-- Where the three bits go. -/
theorem undocBits_bits : ∀ x : BitVec 3,
    (undocBits x).getLsbD 7 = false ∧ (undocBits x).getLsbD 6 = false ∧
    (undocBits x).getLsbD 5 = x.getLsbD 2 ∧ (undocBits x).getLsbD 4 = false ∧
    (undocBits x).getLsbD 3 = x.getLsbD 1 ∧ (undocBits x).getLsbD 2 = false ∧
    (undocBits x).getLsbD 1 = x.getLsbD 0 ∧ (undocBits x).getLsbD 0 = false := by
  decide

@[simp] theorem flagS_putUndoc (x : BitVec 3) (f : Byte) : flagS (putUndoc x f) = flagS f := by
  have h := (undocBits_bits x).1
  simp_all [flagS, putUndoc, documentedBits]

@[simp] theorem flagZ_putUndoc (x : BitVec 3) (f : Byte) : flagZ (putUndoc x f) = flagZ f := by
  have h := (undocBits_bits x).2.1
  simp_all [flagZ, putUndoc, documentedBits]

@[simp] theorem flagK_putUndoc (x : BitVec 3) (f : Byte) : flagK (putUndoc x f) = x.getLsbD 2 := by
  have h := (undocBits_bits x).2.2.1
  simp_all [flagK, putUndoc, documentedBits]

@[simp] theorem flagAC_putUndoc (x : BitVec 3) (f : Byte) : flagAC (putUndoc x f) = flagAC f := by
  have h := (undocBits_bits x).2.2.2.1
  simp_all [flagAC, putUndoc, documentedBits]

@[simp] theorem flagX3_putUndoc (x : BitVec 3) (f : Byte) : flagX3 (putUndoc x f) = x.getLsbD 1 := by
  have h := (undocBits_bits x).2.2.2.2.1
  simp_all [flagX3, putUndoc, documentedBits]

@[simp] theorem flagP_putUndoc (x : BitVec 3) (f : Byte) : flagP (putUndoc x f) = flagP f := by
  have h := (undocBits_bits x).2.2.2.2.2.1
  simp_all [flagP, putUndoc, documentedBits]

@[simp] theorem flagV_putUndoc (x : BitVec 3) (f : Byte) : flagV (putUndoc x f) = x.getLsbD 0 := by
  have h := (undocBits_bits x).2.2.2.2.2.2.1
  simp_all [flagV, putUndoc, documentedBits]

@[simp] theorem flagCY_putUndoc (x : BitVec 3) (f : Byte) : flagCY (putUndoc x f) = flagCY f := by
  have h := (undocBits_bits x).2.2.2.2.2.2.2
  simp_all [flagCY, putUndoc, documentedBits]

/-! ### F after an arithmetic or logical result -/

@[simp] theorem flagS_aluFlags (o : AluOut) (f : Byte) : flagS (aluFlags o f) = o.res.getLsbD 7 := by
  simp [aluFlags]

@[simp] theorem flagZ_aluFlags (o : AluOut) (f : Byte) : flagZ (aluFlags o f) = decide (o.res = 0x00#8) := by
  simp [aluFlags]

@[simp] theorem flagK_aluFlags (o : AluOut) (f : Byte) : flagK (aluFlags o f) = flagK f := by
  simp [aluFlags]

@[simp] theorem flagAC_aluFlags (o : AluOut) (f : Byte) : flagAC (aluFlags o f) = o.ac := by
  simp [aluFlags]

@[simp] theorem flagX3_aluFlags (o : AluOut) (f : Byte) : flagX3 (aluFlags o f) = flagX3 f := by
  simp [aluFlags]

@[simp] theorem flagP_aluFlags (o : AluOut) (f : Byte) : flagP (aluFlags o f) = decide (popcount o.res % 2 = 0) := by
  simp [aluFlags]

@[simp] theorem flagV_aluFlags (o : AluOut) (f : Byte) : flagV (aluFlags o f) = flagV f := by
  simp [aluFlags]

@[simp] theorem flagCY_aluFlags (o : AluOut) (f : Byte) : flagCY (aluFlags o f) = o.cy := by
  simp [aluFlags]

/-! ### Carries as arithmetic -/

theorem and_0F_toNat (x : Byte) : (x &&& 0x0F#8).toNat = x.toNat % 16 := by
  rw [BitVec.toNat_and]
  exact Nat.and_two_pow_sub_one_eq_mod x.toNat 4

/-- The sum, the carry out of bit 7 and the carry out of bit 3 (41_arithmetic.md R201). -/
theorem add8_spec (x y : Byte) (cin : Bool) :
    (add8 x y cin).res.toNat = (x.toNat + y.toNat + cin.toNat) % 256 ∧
    (add8 x y cin).cy = decide (x.toNat + y.toNat + cin.toNat > 255) ∧
    (add8 x y cin).ac = decide (x.toNat % 16 + y.toNat % 16 + cin.toNat > 15) := by
  refine ⟨?_, rfl, ?_⟩
  · simp [add8]
  · simp only [add8, and_0F_toNat]

/-- The difference, the borrow, and AC as "no borrow out of the low nibble"
(41_arithmetic.md R202). -/
theorem sub8_spec (x y : Byte) (bin : Bool) :
    (sub8 x y bin).res.toNat = (x.toNat + 512 - y.toNat - bin.toNat) % 256 ∧
    (sub8 x y bin).cy = decide (x.toNat < y.toNat + bin.toNat) ∧
    (sub8 x y bin).ac = decide (y.toNat % 16 + bin.toNat ≤ x.toNat % 16) := by
  have hx := x.isLt
  have hy := y.isLt
  have hb : bin.toNat ≤ 1 := Bool.toNat_le bin
  refine ⟨?_, ?_, ?_⟩
  · simp only [sub8, BitVec.toNat_ofInt]
    omega
  · simp only [sub8, decide_eq_decide]
    omega
  · simp only [sub8, and_0F_toNat, BitVec.toNat_not, decide_eq_decide]
    omega

end Sys2Proof.Machine
end

