-- ==== Sys2Proof/Laws/State.lean ====
section
/-!
SUPPORT. What each shared update does to each field of State, one lemma a field, so that no later
proof unfolds an update to see that it leaves a field alone.
-/

namespace Sys2Proof.Machine

/-! ### log -/

@[simp] theorem log_cfg (s : State) (ev : Event) : (s.log ev).cfg = s.cfg := rfl
@[simp] theorem log_a (s : State) (ev : Event) : (s.log ev).a = s.a := rfl
@[simp] theorem log_b (s : State) (ev : Event) : (s.log ev).b = s.b := rfl
@[simp] theorem log_c (s : State) (ev : Event) : (s.log ev).c = s.c := rfl
@[simp] theorem log_d (s : State) (ev : Event) : (s.log ev).d = s.d := rfl
@[simp] theorem log_e (s : State) (ev : Event) : (s.log ev).e = s.e := rfl
@[simp] theorem log_h (s : State) (ev : Event) : (s.log ev).h = s.h := rfl
@[simp] theorem log_l (s : State) (ev : Event) : (s.log ev).l = s.l := rfl
@[simp] theorem log_f (s : State) (ev : Event) : (s.log ev).f = s.f := rfl
@[simp] theorem log_w (s : State) (ev : Event) : (s.log ev).w = s.w := rfl
@[simp] theorem log_z (s : State) (ev : Event) : (s.log ev).z = s.z := rfl
@[simp] theorem log_pc (s : State) (ev : Event) : (s.log ev).pc = s.pc := rfl
@[simp] theorem log_sp (s : State) (ev : Event) : (s.log ev).sp = s.sp := rfl
@[simp] theorem log_ie (s : State) (ev : Event) : (s.log ev).ie = s.ie := rfl
@[simp] theorem log_im (s : State) (ev : Event) : (s.log ev).im = s.im := rfl
@[simp] theorem log_p75 (s : State) (ev : Event) : (s.log ev).p75 = s.p75 := rfl
@[simp] theorem log_trapLatch (s : State) (ev : Event) : (s.log ev).trapLatch = s.trapLatch := rfl
@[simp] theorem log_intrLine (s : State) (ev : Event) : (s.log ev).intrLine = s.intrLine := rfl
@[simp] theorem log_rst55Line (s : State) (ev : Event) : (s.log ev).rst55Line = s.rst55Line := rfl
@[simp] theorem log_rst65Line (s : State) (ev : Event) : (s.log ev).rst65Line = s.rst65Line := rfl
@[simp] theorem log_rst75Line (s : State) (ev : Event) : (s.log ev).rst75Line = s.rst75Line := rfl
@[simp] theorem log_trapLine (s : State) (ev : Event) : (s.log ev).trapLine = s.trapLine := rfl
@[simp] theorem log_trapCopyValid (s : State) (ev : Event) : (s.log ev).trapCopyValid = s.trapCopyValid := rfl
@[simp] theorem log_trapImCopy (s : State) (ev : Event) : (s.log ev).trapImCopy = s.trapImCopy := rfl
@[simp] theorem log_sod (s : State) (ev : Event) : (s.log ev).sod = s.sod := rfl
@[simp] theorem log_sid (s : State) (ev : Event) : (s.log ev).sid = s.sid := rfl
@[simp] theorem log_halt (s : State) (ev : Event) : (s.log ev).halt = s.halt := rfl
@[simp] theorem log_eiDelay (s : State) (ev : Event) : (s.log ev).eiDelay = s.eiDelay := rfl
@[simp] theorem log_status (s : State) (ev : Event) : (s.log ev).status = s.status := rfl
@[simp] theorem log_mem (s : State) (ev : Event) : (s.log ev).mem = s.mem := rfl
@[simp] theorem log_sidIn (s : State) (ev : Event) : (s.log ev).sidIn = s.sidIn := rfl
@[simp] theorem log_inta (s : State) (ev : Event) : (s.log ev).inta = s.inta := rfl
@[simp] theorem log_ioIn (s : State) (ev : Event) : (s.log ev).ioIn = s.ioIn := rfl
@[simp] theorem log_events (s : State) (ev : Event) : (s.log ev).events = ev :: s.events := rfl
@[simp] theorem log_draws (s : State) (ev : Event) : (s.log ev).draws = s.draws := rfl

/-! ### draw -/

@[simp] theorem draw_cfg (n : Nat) (s : State) : (draw n s).2.cfg = s.cfg := rfl
@[simp] theorem draw_a (n : Nat) (s : State) : (draw n s).2.a = s.a := rfl
@[simp] theorem draw_b (n : Nat) (s : State) : (draw n s).2.b = s.b := rfl
@[simp] theorem draw_c (n : Nat) (s : State) : (draw n s).2.c = s.c := rfl
@[simp] theorem draw_d (n : Nat) (s : State) : (draw n s).2.d = s.d := rfl
@[simp] theorem draw_e (n : Nat) (s : State) : (draw n s).2.e = s.e := rfl
@[simp] theorem draw_h (n : Nat) (s : State) : (draw n s).2.h = s.h := rfl
@[simp] theorem draw_l (n : Nat) (s : State) : (draw n s).2.l = s.l := rfl
@[simp] theorem draw_f (n : Nat) (s : State) : (draw n s).2.f = s.f := rfl
@[simp] theorem draw_w (n : Nat) (s : State) : (draw n s).2.w = s.w := rfl
@[simp] theorem draw_z (n : Nat) (s : State) : (draw n s).2.z = s.z := rfl
@[simp] theorem draw_pc (n : Nat) (s : State) : (draw n s).2.pc = s.pc := rfl
@[simp] theorem draw_sp (n : Nat) (s : State) : (draw n s).2.sp = s.sp := rfl
@[simp] theorem draw_ie (n : Nat) (s : State) : (draw n s).2.ie = s.ie := rfl
@[simp] theorem draw_im (n : Nat) (s : State) : (draw n s).2.im = s.im := rfl
@[simp] theorem draw_p75 (n : Nat) (s : State) : (draw n s).2.p75 = s.p75 := rfl
@[simp] theorem draw_trapLatch (n : Nat) (s : State) : (draw n s).2.trapLatch = s.trapLatch := rfl
@[simp] theorem draw_intrLine (n : Nat) (s : State) : (draw n s).2.intrLine = s.intrLine := rfl
@[simp] theorem draw_rst55Line (n : Nat) (s : State) : (draw n s).2.rst55Line = s.rst55Line := rfl
@[simp] theorem draw_rst65Line (n : Nat) (s : State) : (draw n s).2.rst65Line = s.rst65Line := rfl
@[simp] theorem draw_rst75Line (n : Nat) (s : State) : (draw n s).2.rst75Line = s.rst75Line := rfl
@[simp] theorem draw_trapLine (n : Nat) (s : State) : (draw n s).2.trapLine = s.trapLine := rfl
@[simp] theorem draw_trapCopyValid (n : Nat) (s : State) : (draw n s).2.trapCopyValid = s.trapCopyValid := rfl
@[simp] theorem draw_trapImCopy (n : Nat) (s : State) : (draw n s).2.trapImCopy = s.trapImCopy := rfl
@[simp] theorem draw_sod (n : Nat) (s : State) : (draw n s).2.sod = s.sod := rfl
@[simp] theorem draw_sid (n : Nat) (s : State) : (draw n s).2.sid = s.sid := rfl
@[simp] theorem draw_halt (n : Nat) (s : State) : (draw n s).2.halt = s.halt := rfl
@[simp] theorem draw_eiDelay (n : Nat) (s : State) : (draw n s).2.eiDelay = s.eiDelay := rfl
@[simp] theorem draw_status (n : Nat) (s : State) : (draw n s).2.status = s.status := rfl
@[simp] theorem draw_mem (n : Nat) (s : State) : (draw n s).2.mem = s.mem := rfl
@[simp] theorem draw_sidIn (n : Nat) (s : State) : (draw n s).2.sidIn = s.sidIn := rfl
@[simp] theorem draw_inta (n : Nat) (s : State) : (draw n s).2.inta = s.inta := rfl
@[simp] theorem draw_ioIn (n : Nat) (s : State) : (draw n s).2.ioIn = s.ioIn := rfl
@[simp] theorem draw_events (n : Nat) (s : State) : (draw n s).2.events = s.events := rfl
@[simp] theorem draw_draws (n : Nat) (s : State) : (draw n s).2.draws = s.draws + 1 := rfl

/-! ### memRead -/

@[simp] theorem memRead_cfg (x : Word) (s : State) : (memRead x s).2.cfg = s.cfg := rfl
@[simp] theorem memRead_a (x : Word) (s : State) : (memRead x s).2.a = s.a := rfl
@[simp] theorem memRead_b (x : Word) (s : State) : (memRead x s).2.b = s.b := rfl
@[simp] theorem memRead_c (x : Word) (s : State) : (memRead x s).2.c = s.c := rfl
@[simp] theorem memRead_d (x : Word) (s : State) : (memRead x s).2.d = s.d := rfl
@[simp] theorem memRead_e (x : Word) (s : State) : (memRead x s).2.e = s.e := rfl
@[simp] theorem memRead_h (x : Word) (s : State) : (memRead x s).2.h = s.h := rfl
@[simp] theorem memRead_l (x : Word) (s : State) : (memRead x s).2.l = s.l := rfl
@[simp] theorem memRead_f (x : Word) (s : State) : (memRead x s).2.f = s.f := rfl
@[simp] theorem memRead_w (x : Word) (s : State) : (memRead x s).2.w = s.w := rfl
@[simp] theorem memRead_z (x : Word) (s : State) : (memRead x s).2.z = s.z := rfl
@[simp] theorem memRead_pc (x : Word) (s : State) : (memRead x s).2.pc = s.pc := rfl
@[simp] theorem memRead_sp (x : Word) (s : State) : (memRead x s).2.sp = s.sp := rfl
@[simp] theorem memRead_ie (x : Word) (s : State) : (memRead x s).2.ie = s.ie := rfl
@[simp] theorem memRead_im (x : Word) (s : State) : (memRead x s).2.im = s.im := rfl
@[simp] theorem memRead_p75 (x : Word) (s : State) : (memRead x s).2.p75 = s.p75 := rfl
@[simp] theorem memRead_trapLatch (x : Word) (s : State) : (memRead x s).2.trapLatch = s.trapLatch := rfl
@[simp] theorem memRead_intrLine (x : Word) (s : State) : (memRead x s).2.intrLine = s.intrLine := rfl
@[simp] theorem memRead_rst55Line (x : Word) (s : State) : (memRead x s).2.rst55Line = s.rst55Line := rfl
@[simp] theorem memRead_rst65Line (x : Word) (s : State) : (memRead x s).2.rst65Line = s.rst65Line := rfl
@[simp] theorem memRead_rst75Line (x : Word) (s : State) : (memRead x s).2.rst75Line = s.rst75Line := rfl
@[simp] theorem memRead_trapLine (x : Word) (s : State) : (memRead x s).2.trapLine = s.trapLine := rfl
@[simp] theorem memRead_trapCopyValid (x : Word) (s : State) : (memRead x s).2.trapCopyValid = s.trapCopyValid := rfl
@[simp] theorem memRead_trapImCopy (x : Word) (s : State) : (memRead x s).2.trapImCopy = s.trapImCopy := rfl
@[simp] theorem memRead_sod (x : Word) (s : State) : (memRead x s).2.sod = s.sod := rfl
@[simp] theorem memRead_sid (x : Word) (s : State) : (memRead x s).2.sid = s.sid := rfl
@[simp] theorem memRead_halt (x : Word) (s : State) : (memRead x s).2.halt = s.halt := rfl
@[simp] theorem memRead_eiDelay (x : Word) (s : State) : (memRead x s).2.eiDelay = s.eiDelay := rfl
@[simp] theorem memRead_status (x : Word) (s : State) : (memRead x s).2.status = s.status := rfl
@[simp] theorem memRead_mem (x : Word) (s : State) : (memRead x s).2.mem = s.mem := rfl
@[simp] theorem memRead_sidIn (x : Word) (s : State) : (memRead x s).2.sidIn = s.sidIn := rfl
@[simp] theorem memRead_inta (x : Word) (s : State) : (memRead x s).2.inta = s.inta := rfl
@[simp] theorem memRead_ioIn (x : Word) (s : State) : (memRead x s).2.ioIn = s.ioIn := rfl
@[simp] theorem memRead_events (x : Word) (s : State) : (memRead x s).2.events = .memRead x (readValue x s) :: s.events := rfl
@[simp] theorem memRead_draws (x : Word) (s : State) : (memRead x s).2.draws = if s.cfg.isDevice x then s.draws + 1 else s.draws := rfl

/-! ### memWrite -/

@[simp] theorem memWrite_cfg (x : Word) (v : Byte) (s : State) : (memWrite x v s).cfg = s.cfg := rfl
@[simp] theorem memWrite_a (x : Word) (v : Byte) (s : State) : (memWrite x v s).a = s.a := rfl
@[simp] theorem memWrite_b (x : Word) (v : Byte) (s : State) : (memWrite x v s).b = s.b := rfl
@[simp] theorem memWrite_c (x : Word) (v : Byte) (s : State) : (memWrite x v s).c = s.c := rfl
@[simp] theorem memWrite_d (x : Word) (v : Byte) (s : State) : (memWrite x v s).d = s.d := rfl
@[simp] theorem memWrite_e (x : Word) (v : Byte) (s : State) : (memWrite x v s).e = s.e := rfl
@[simp] theorem memWrite_h (x : Word) (v : Byte) (s : State) : (memWrite x v s).h = s.h := rfl
@[simp] theorem memWrite_l (x : Word) (v : Byte) (s : State) : (memWrite x v s).l = s.l := rfl
@[simp] theorem memWrite_f (x : Word) (v : Byte) (s : State) : (memWrite x v s).f = s.f := rfl
@[simp] theorem memWrite_w (x : Word) (v : Byte) (s : State) : (memWrite x v s).w = s.w := rfl
@[simp] theorem memWrite_z (x : Word) (v : Byte) (s : State) : (memWrite x v s).z = s.z := rfl
@[simp] theorem memWrite_pc (x : Word) (v : Byte) (s : State) : (memWrite x v s).pc = s.pc := rfl
@[simp] theorem memWrite_sp (x : Word) (v : Byte) (s : State) : (memWrite x v s).sp = s.sp := rfl
@[simp] theorem memWrite_ie (x : Word) (v : Byte) (s : State) : (memWrite x v s).ie = s.ie := rfl
@[simp] theorem memWrite_im (x : Word) (v : Byte) (s : State) : (memWrite x v s).im = s.im := rfl
@[simp] theorem memWrite_p75 (x : Word) (v : Byte) (s : State) : (memWrite x v s).p75 = s.p75 := rfl
@[simp] theorem memWrite_trapLatch (x : Word) (v : Byte) (s : State) : (memWrite x v s).trapLatch = s.trapLatch := rfl
@[simp] theorem memWrite_intrLine (x : Word) (v : Byte) (s : State) : (memWrite x v s).intrLine = s.intrLine := rfl
@[simp] theorem memWrite_rst55Line (x : Word) (v : Byte) (s : State) : (memWrite x v s).rst55Line = s.rst55Line := rfl
@[simp] theorem memWrite_rst65Line (x : Word) (v : Byte) (s : State) : (memWrite x v s).rst65Line = s.rst65Line := rfl
@[simp] theorem memWrite_rst75Line (x : Word) (v : Byte) (s : State) : (memWrite x v s).rst75Line = s.rst75Line := rfl
@[simp] theorem memWrite_trapLine (x : Word) (v : Byte) (s : State) : (memWrite x v s).trapLine = s.trapLine := rfl
@[simp] theorem memWrite_trapCopyValid (x : Word) (v : Byte) (s : State) : (memWrite x v s).trapCopyValid = s.trapCopyValid := rfl
@[simp] theorem memWrite_trapImCopy (x : Word) (v : Byte) (s : State) : (memWrite x v s).trapImCopy = s.trapImCopy := rfl
@[simp] theorem memWrite_sod (x : Word) (v : Byte) (s : State) : (memWrite x v s).sod = s.sod := rfl
@[simp] theorem memWrite_sid (x : Word) (v : Byte) (s : State) : (memWrite x v s).sid = s.sid := rfl
@[simp] theorem memWrite_halt (x : Word) (v : Byte) (s : State) : (memWrite x v s).halt = s.halt := rfl
@[simp] theorem memWrite_eiDelay (x : Word) (v : Byte) (s : State) : (memWrite x v s).eiDelay = s.eiDelay := rfl
@[simp] theorem memWrite_status (x : Word) (v : Byte) (s : State) : (memWrite x v s).status = s.status := rfl
@[simp] theorem memWrite_mem (x : Word) (v : Byte) (s : State) : (memWrite x v s).mem = if s.cfg.isDevice x then s.mem else s.mem.write x.toNat v := rfl
@[simp] theorem memWrite_sidIn (x : Word) (v : Byte) (s : State) : (memWrite x v s).sidIn = s.sidIn := rfl
@[simp] theorem memWrite_inta (x : Word) (v : Byte) (s : State) : (memWrite x v s).inta = s.inta := rfl
@[simp] theorem memWrite_ioIn (x : Word) (v : Byte) (s : State) : (memWrite x v s).ioIn = s.ioIn := rfl
@[simp] theorem memWrite_events (x : Word) (v : Byte) (s : State) : (memWrite x v s).events = .memWrite x v :: s.events := rfl
@[simp] theorem memWrite_draws (x : Word) (v : Byte) (s : State) : (memWrite x v s).draws = s.draws := rfl

/-! ### memRead16 -/

@[simp] theorem memRead16_cfg (x : Word) (s : State) : (memRead16 x s).2.cfg = s.cfg := rfl
@[simp] theorem memRead16_a (x : Word) (s : State) : (memRead16 x s).2.a = s.a := rfl
@[simp] theorem memRead16_b (x : Word) (s : State) : (memRead16 x s).2.b = s.b := rfl
@[simp] theorem memRead16_c (x : Word) (s : State) : (memRead16 x s).2.c = s.c := rfl
@[simp] theorem memRead16_d (x : Word) (s : State) : (memRead16 x s).2.d = s.d := rfl
@[simp] theorem memRead16_e (x : Word) (s : State) : (memRead16 x s).2.e = s.e := rfl
@[simp] theorem memRead16_h (x : Word) (s : State) : (memRead16 x s).2.h = s.h := rfl
@[simp] theorem memRead16_l (x : Word) (s : State) : (memRead16 x s).2.l = s.l := rfl
@[simp] theorem memRead16_f (x : Word) (s : State) : (memRead16 x s).2.f = s.f := rfl
@[simp] theorem memRead16_w (x : Word) (s : State) : (memRead16 x s).2.w = s.w := rfl
@[simp] theorem memRead16_z (x : Word) (s : State) : (memRead16 x s).2.z = s.z := rfl
@[simp] theorem memRead16_pc (x : Word) (s : State) : (memRead16 x s).2.pc = s.pc := rfl
@[simp] theorem memRead16_sp (x : Word) (s : State) : (memRead16 x s).2.sp = s.sp := rfl
@[simp] theorem memRead16_ie (x : Word) (s : State) : (memRead16 x s).2.ie = s.ie := rfl
@[simp] theorem memRead16_im (x : Word) (s : State) : (memRead16 x s).2.im = s.im := rfl
@[simp] theorem memRead16_p75 (x : Word) (s : State) : (memRead16 x s).2.p75 = s.p75 := rfl
@[simp] theorem memRead16_trapLatch (x : Word) (s : State) : (memRead16 x s).2.trapLatch = s.trapLatch := rfl
@[simp] theorem memRead16_intrLine (x : Word) (s : State) : (memRead16 x s).2.intrLine = s.intrLine := rfl
@[simp] theorem memRead16_rst55Line (x : Word) (s : State) : (memRead16 x s).2.rst55Line = s.rst55Line := rfl
@[simp] theorem memRead16_rst65Line (x : Word) (s : State) : (memRead16 x s).2.rst65Line = s.rst65Line := rfl
@[simp] theorem memRead16_rst75Line (x : Word) (s : State) : (memRead16 x s).2.rst75Line = s.rst75Line := rfl
@[simp] theorem memRead16_trapLine (x : Word) (s : State) : (memRead16 x s).2.trapLine = s.trapLine := rfl
@[simp] theorem memRead16_trapCopyValid (x : Word) (s : State) : (memRead16 x s).2.trapCopyValid = s.trapCopyValid := rfl
@[simp] theorem memRead16_trapImCopy (x : Word) (s : State) : (memRead16 x s).2.trapImCopy = s.trapImCopy := rfl
@[simp] theorem memRead16_sod (x : Word) (s : State) : (memRead16 x s).2.sod = s.sod := rfl
@[simp] theorem memRead16_sid (x : Word) (s : State) : (memRead16 x s).2.sid = s.sid := rfl
@[simp] theorem memRead16_halt (x : Word) (s : State) : (memRead16 x s).2.halt = s.halt := rfl
@[simp] theorem memRead16_eiDelay (x : Word) (s : State) : (memRead16 x s).2.eiDelay = s.eiDelay := rfl
@[simp] theorem memRead16_status (x : Word) (s : State) : (memRead16 x s).2.status = s.status := rfl
@[simp] theorem memRead16_mem (x : Word) (s : State) : (memRead16 x s).2.mem = s.mem := rfl
@[simp] theorem memRead16_sidIn (x : Word) (s : State) : (memRead16 x s).2.sidIn = s.sidIn := rfl
@[simp] theorem memRead16_inta (x : Word) (s : State) : (memRead16 x s).2.inta = s.inta := rfl
@[simp] theorem memRead16_ioIn (x : Word) (s : State) : (memRead16 x s).2.ioIn = s.ioIn := rfl
@[simp] theorem memRead16_events (x : Word) (s : State) :
    (memRead16 x s).2.events = .memRead (x + 1#16) (readValue (x + 1#16) (memRead x s).2) ::
      .memRead x (readValue x s) :: s.events := rfl

/-! ### memWrite16 -/

@[simp] theorem memWrite16_cfg (x v : Word) (s : State) : (memWrite16 x v s).cfg = s.cfg := rfl
@[simp] theorem memWrite16_a (x v : Word) (s : State) : (memWrite16 x v s).a = s.a := rfl
@[simp] theorem memWrite16_b (x v : Word) (s : State) : (memWrite16 x v s).b = s.b := rfl
@[simp] theorem memWrite16_c (x v : Word) (s : State) : (memWrite16 x v s).c = s.c := rfl
@[simp] theorem memWrite16_d (x v : Word) (s : State) : (memWrite16 x v s).d = s.d := rfl
@[simp] theorem memWrite16_e (x v : Word) (s : State) : (memWrite16 x v s).e = s.e := rfl
@[simp] theorem memWrite16_h (x v : Word) (s : State) : (memWrite16 x v s).h = s.h := rfl
@[simp] theorem memWrite16_l (x v : Word) (s : State) : (memWrite16 x v s).l = s.l := rfl
@[simp] theorem memWrite16_f (x v : Word) (s : State) : (memWrite16 x v s).f = s.f := rfl
@[simp] theorem memWrite16_w (x v : Word) (s : State) : (memWrite16 x v s).w = s.w := rfl
@[simp] theorem memWrite16_z (x v : Word) (s : State) : (memWrite16 x v s).z = s.z := rfl
@[simp] theorem memWrite16_pc (x v : Word) (s : State) : (memWrite16 x v s).pc = s.pc := rfl
@[simp] theorem memWrite16_sp (x v : Word) (s : State) : (memWrite16 x v s).sp = s.sp := rfl
@[simp] theorem memWrite16_ie (x v : Word) (s : State) : (memWrite16 x v s).ie = s.ie := rfl
@[simp] theorem memWrite16_im (x v : Word) (s : State) : (memWrite16 x v s).im = s.im := rfl
@[simp] theorem memWrite16_p75 (x v : Word) (s : State) : (memWrite16 x v s).p75 = s.p75 := rfl
@[simp] theorem memWrite16_trapLatch (x v : Word) (s : State) : (memWrite16 x v s).trapLatch = s.trapLatch := rfl
@[simp] theorem memWrite16_intrLine (x v : Word) (s : State) : (memWrite16 x v s).intrLine = s.intrLine := rfl
@[simp] theorem memWrite16_rst55Line (x v : Word) (s : State) : (memWrite16 x v s).rst55Line = s.rst55Line := rfl
@[simp] theorem memWrite16_rst65Line (x v : Word) (s : State) : (memWrite16 x v s).rst65Line = s.rst65Line := rfl
@[simp] theorem memWrite16_rst75Line (x v : Word) (s : State) : (memWrite16 x v s).rst75Line = s.rst75Line := rfl
@[simp] theorem memWrite16_trapLine (x v : Word) (s : State) : (memWrite16 x v s).trapLine = s.trapLine := rfl
@[simp] theorem memWrite16_trapCopyValid (x v : Word) (s : State) : (memWrite16 x v s).trapCopyValid = s.trapCopyValid := rfl
@[simp] theorem memWrite16_trapImCopy (x v : Word) (s : State) : (memWrite16 x v s).trapImCopy = s.trapImCopy := rfl
@[simp] theorem memWrite16_sod (x v : Word) (s : State) : (memWrite16 x v s).sod = s.sod := rfl
@[simp] theorem memWrite16_sid (x v : Word) (s : State) : (memWrite16 x v s).sid = s.sid := rfl
@[simp] theorem memWrite16_halt (x v : Word) (s : State) : (memWrite16 x v s).halt = s.halt := rfl
@[simp] theorem memWrite16_eiDelay (x v : Word) (s : State) : (memWrite16 x v s).eiDelay = s.eiDelay := rfl
@[simp] theorem memWrite16_status (x v : Word) (s : State) : (memWrite16 x v s).status = s.status := rfl
@[simp] theorem memWrite16_sidIn (x v : Word) (s : State) : (memWrite16 x v s).sidIn = s.sidIn := rfl
@[simp] theorem memWrite16_inta (x v : Word) (s : State) : (memWrite16 x v s).inta = s.inta := rfl
@[simp] theorem memWrite16_ioIn (x v : Word) (s : State) : (memWrite16 x v s).ioIn = s.ioIn := rfl
@[simp] theorem memWrite16_events (x v : Word) (s : State) : (memWrite16 x v s).events = .memWrite (x + 1#16) (Word.hi v) :: .memWrite x (Word.lo v) :: s.events := rfl
@[simp] theorem memWrite16_draws (x v : Word) (s : State) : (memWrite16 x v s).draws = s.draws := rfl

/-! ### push16 -/

@[simp] theorem push16_cfg (v : Word) (s : State) : (push16 v s).cfg = s.cfg := rfl
@[simp] theorem push16_a (v : Word) (s : State) : (push16 v s).a = s.a := rfl
@[simp] theorem push16_b (v : Word) (s : State) : (push16 v s).b = s.b := rfl
@[simp] theorem push16_c (v : Word) (s : State) : (push16 v s).c = s.c := rfl
@[simp] theorem push16_d (v : Word) (s : State) : (push16 v s).d = s.d := rfl
@[simp] theorem push16_e (v : Word) (s : State) : (push16 v s).e = s.e := rfl
@[simp] theorem push16_h (v : Word) (s : State) : (push16 v s).h = s.h := rfl
@[simp] theorem push16_l (v : Word) (s : State) : (push16 v s).l = s.l := rfl
@[simp] theorem push16_f (v : Word) (s : State) : (push16 v s).f = s.f := rfl
@[simp] theorem push16_w (v : Word) (s : State) : (push16 v s).w = s.w := rfl
@[simp] theorem push16_z (v : Word) (s : State) : (push16 v s).z = s.z := rfl
@[simp] theorem push16_pc (v : Word) (s : State) : (push16 v s).pc = s.pc := rfl
@[simp] theorem push16_sp (v : Word) (s : State) : (push16 v s).sp = s.sp - 2#16 := rfl
@[simp] theorem push16_ie (v : Word) (s : State) : (push16 v s).ie = s.ie := rfl
@[simp] theorem push16_im (v : Word) (s : State) : (push16 v s).im = s.im := rfl
@[simp] theorem push16_p75 (v : Word) (s : State) : (push16 v s).p75 = s.p75 := rfl
@[simp] theorem push16_trapLatch (v : Word) (s : State) : (push16 v s).trapLatch = s.trapLatch := rfl
@[simp] theorem push16_intrLine (v : Word) (s : State) : (push16 v s).intrLine = s.intrLine := rfl
@[simp] theorem push16_rst55Line (v : Word) (s : State) : (push16 v s).rst55Line = s.rst55Line := rfl
@[simp] theorem push16_rst65Line (v : Word) (s : State) : (push16 v s).rst65Line = s.rst65Line := rfl
@[simp] theorem push16_rst75Line (v : Word) (s : State) : (push16 v s).rst75Line = s.rst75Line := rfl
@[simp] theorem push16_trapLine (v : Word) (s : State) : (push16 v s).trapLine = s.trapLine := rfl
@[simp] theorem push16_trapCopyValid (v : Word) (s : State) : (push16 v s).trapCopyValid = s.trapCopyValid := rfl
@[simp] theorem push16_trapImCopy (v : Word) (s : State) : (push16 v s).trapImCopy = s.trapImCopy := rfl
@[simp] theorem push16_sod (v : Word) (s : State) : (push16 v s).sod = s.sod := rfl
@[simp] theorem push16_sid (v : Word) (s : State) : (push16 v s).sid = s.sid := rfl
@[simp] theorem push16_halt (v : Word) (s : State) : (push16 v s).halt = s.halt := rfl
@[simp] theorem push16_eiDelay (v : Word) (s : State) : (push16 v s).eiDelay = s.eiDelay := rfl
@[simp] theorem push16_status (v : Word) (s : State) : (push16 v s).status = s.status := rfl
@[simp] theorem push16_sidIn (v : Word) (s : State) : (push16 v s).sidIn = s.sidIn := rfl
@[simp] theorem push16_inta (v : Word) (s : State) : (push16 v s).inta = s.inta := rfl
@[simp] theorem push16_ioIn (v : Word) (s : State) : (push16 v s).ioIn = s.ioIn := rfl
@[simp] theorem push16_events (v : Word) (s : State) : (push16 v s).events = .memWrite (s.sp - 2#16) (Word.lo v) :: .memWrite (s.sp - 1#16) (Word.hi v) :: s.events := rfl
@[simp] theorem push16_draws (v : Word) (s : State) : (push16 v s).draws = s.draws := rfl

/-! ### pop16 -/

@[simp] theorem pop16_cfg (s : State) : (pop16 s).2.cfg = s.cfg := rfl
@[simp] theorem pop16_a (s : State) : (pop16 s).2.a = s.a := rfl
@[simp] theorem pop16_b (s : State) : (pop16 s).2.b = s.b := rfl
@[simp] theorem pop16_c (s : State) : (pop16 s).2.c = s.c := rfl
@[simp] theorem pop16_d (s : State) : (pop16 s).2.d = s.d := rfl
@[simp] theorem pop16_e (s : State) : (pop16 s).2.e = s.e := rfl
@[simp] theorem pop16_h (s : State) : (pop16 s).2.h = s.h := rfl
@[simp] theorem pop16_l (s : State) : (pop16 s).2.l = s.l := rfl
@[simp] theorem pop16_f (s : State) : (pop16 s).2.f = s.f := rfl
@[simp] theorem pop16_w (s : State) : (pop16 s).2.w = s.w := rfl
@[simp] theorem pop16_z (s : State) : (pop16 s).2.z = s.z := rfl
@[simp] theorem pop16_pc (s : State) : (pop16 s).2.pc = s.pc := rfl
@[simp] theorem pop16_sp (s : State) : (pop16 s).2.sp = s.sp + 2#16 := rfl
@[simp] theorem pop16_ie (s : State) : (pop16 s).2.ie = s.ie := rfl
@[simp] theorem pop16_im (s : State) : (pop16 s).2.im = s.im := rfl
@[simp] theorem pop16_p75 (s : State) : (pop16 s).2.p75 = s.p75 := rfl
@[simp] theorem pop16_trapLatch (s : State) : (pop16 s).2.trapLatch = s.trapLatch := rfl
@[simp] theorem pop16_intrLine (s : State) : (pop16 s).2.intrLine = s.intrLine := rfl
@[simp] theorem pop16_rst55Line (s : State) : (pop16 s).2.rst55Line = s.rst55Line := rfl
@[simp] theorem pop16_rst65Line (s : State) : (pop16 s).2.rst65Line = s.rst65Line := rfl
@[simp] theorem pop16_rst75Line (s : State) : (pop16 s).2.rst75Line = s.rst75Line := rfl
@[simp] theorem pop16_trapLine (s : State) : (pop16 s).2.trapLine = s.trapLine := rfl
@[simp] theorem pop16_trapCopyValid (s : State) : (pop16 s).2.trapCopyValid = s.trapCopyValid := rfl
@[simp] theorem pop16_trapImCopy (s : State) : (pop16 s).2.trapImCopy = s.trapImCopy := rfl
@[simp] theorem pop16_sod (s : State) : (pop16 s).2.sod = s.sod := rfl
@[simp] theorem pop16_sid (s : State) : (pop16 s).2.sid = s.sid := rfl
@[simp] theorem pop16_halt (s : State) : (pop16 s).2.halt = s.halt := rfl
@[simp] theorem pop16_eiDelay (s : State) : (pop16 s).2.eiDelay = s.eiDelay := rfl
@[simp] theorem pop16_status (s : State) : (pop16 s).2.status = s.status := rfl
@[simp] theorem pop16_mem (s : State) : (pop16 s).2.mem = s.mem := rfl
@[simp] theorem pop16_sidIn (s : State) : (pop16 s).2.sidIn = s.sidIn := rfl
@[simp] theorem pop16_inta (s : State) : (pop16 s).2.inta = s.inta := rfl
@[simp] theorem pop16_ioIn (s : State) : (pop16 s).2.ioIn = s.ioIn := rfl
@[simp] theorem pop16_events (s : State) :
    (pop16 s).2.events = .memRead (s.sp + 1#16) (readValue (s.sp + 1#16) (memRead s.sp s).2) ::
      .memRead s.sp (readValue s.sp s) :: s.events := rfl

/-! ### fixF -/

@[simp] theorem fixF_cfg (s : State) : (fixF s).cfg = s.cfg := rfl
@[simp] theorem fixF_a (s : State) : (fixF s).a = s.a := rfl
@[simp] theorem fixF_b (s : State) : (fixF s).b = s.b := rfl
@[simp] theorem fixF_c (s : State) : (fixF s).c = s.c := rfl
@[simp] theorem fixF_d (s : State) : (fixF s).d = s.d := rfl
@[simp] theorem fixF_e (s : State) : (fixF s).e = s.e := rfl
@[simp] theorem fixF_h (s : State) : (fixF s).h = s.h := rfl
@[simp] theorem fixF_l (s : State) : (fixF s).l = s.l := rfl
@[simp] theorem fixF_f (s : State) : (fixF s).f = putUndoc (undocValue s) s.f := rfl
@[simp] theorem fixF_w (s : State) : (fixF s).w = s.w := rfl
@[simp] theorem fixF_z (s : State) : (fixF s).z = s.z := rfl
@[simp] theorem fixF_pc (s : State) : (fixF s).pc = s.pc := rfl
@[simp] theorem fixF_sp (s : State) : (fixF s).sp = s.sp := rfl
@[simp] theorem fixF_ie (s : State) : (fixF s).ie = s.ie := rfl
@[simp] theorem fixF_im (s : State) : (fixF s).im = s.im := rfl
@[simp] theorem fixF_p75 (s : State) : (fixF s).p75 = s.p75 := rfl
@[simp] theorem fixF_trapLatch (s : State) : (fixF s).trapLatch = s.trapLatch := rfl
@[simp] theorem fixF_intrLine (s : State) : (fixF s).intrLine = s.intrLine := rfl
@[simp] theorem fixF_rst55Line (s : State) : (fixF s).rst55Line = s.rst55Line := rfl
@[simp] theorem fixF_rst65Line (s : State) : (fixF s).rst65Line = s.rst65Line := rfl
@[simp] theorem fixF_rst75Line (s : State) : (fixF s).rst75Line = s.rst75Line := rfl
@[simp] theorem fixF_trapLine (s : State) : (fixF s).trapLine = s.trapLine := rfl
@[simp] theorem fixF_trapCopyValid (s : State) : (fixF s).trapCopyValid = s.trapCopyValid := rfl
@[simp] theorem fixF_trapImCopy (s : State) : (fixF s).trapImCopy = s.trapImCopy := rfl
@[simp] theorem fixF_sod (s : State) : (fixF s).sod = s.sod := rfl
@[simp] theorem fixF_sid (s : State) : (fixF s).sid = s.sid := rfl
@[simp] theorem fixF_halt (s : State) : (fixF s).halt = s.halt := rfl
@[simp] theorem fixF_eiDelay (s : State) : (fixF s).eiDelay = s.eiDelay := rfl
@[simp] theorem fixF_status (s : State) : (fixF s).status = s.status := rfl
@[simp] theorem fixF_mem (s : State) : (fixF s).mem = s.mem := rfl
@[simp] theorem fixF_sidIn (s : State) : (fixF s).sidIn = s.sidIn := rfl
@[simp] theorem fixF_inta (s : State) : (fixF s).inta = s.inta := rfl
@[simp] theorem fixF_ioIn (s : State) : (fixF s).ioIn = s.ioIn := rfl
@[simp] theorem fixF_events (s : State) : (fixF s).events = s.events := rfl
@[simp] theorem fixF_draws (s : State) : (fixF s).draws = if s.cfg.variant.is8080 then s.draws else s.draws + 1 := rfl

/-! ### setIE -/

@[simp] theorem setIE_cfg (v : Bool) (s : State) : (setIE v s).cfg = s.cfg := rfl
@[simp] theorem setIE_a (v : Bool) (s : State) : (setIE v s).a = s.a := rfl
@[simp] theorem setIE_b (v : Bool) (s : State) : (setIE v s).b = s.b := rfl
@[simp] theorem setIE_c (v : Bool) (s : State) : (setIE v s).c = s.c := rfl
@[simp] theorem setIE_d (v : Bool) (s : State) : (setIE v s).d = s.d := rfl
@[simp] theorem setIE_e (v : Bool) (s : State) : (setIE v s).e = s.e := rfl
@[simp] theorem setIE_h (v : Bool) (s : State) : (setIE v s).h = s.h := rfl
@[simp] theorem setIE_l (v : Bool) (s : State) : (setIE v s).l = s.l := rfl
@[simp] theorem setIE_f (v : Bool) (s : State) : (setIE v s).f = s.f := rfl
@[simp] theorem setIE_w (v : Bool) (s : State) : (setIE v s).w = s.w := rfl
@[simp] theorem setIE_z (v : Bool) (s : State) : (setIE v s).z = s.z := rfl
@[simp] theorem setIE_pc (v : Bool) (s : State) : (setIE v s).pc = s.pc := rfl
@[simp] theorem setIE_sp (v : Bool) (s : State) : (setIE v s).sp = s.sp := rfl
@[simp] theorem setIE_ie (v : Bool) (s : State) : (setIE v s).ie = v := rfl
@[simp] theorem setIE_im (v : Bool) (s : State) : (setIE v s).im = s.im := rfl
@[simp] theorem setIE_p75 (v : Bool) (s : State) : (setIE v s).p75 = s.p75 := rfl
@[simp] theorem setIE_trapLatch (v : Bool) (s : State) : (setIE v s).trapLatch = s.trapLatch := rfl
@[simp] theorem setIE_intrLine (v : Bool) (s : State) : (setIE v s).intrLine = s.intrLine := rfl
@[simp] theorem setIE_rst55Line (v : Bool) (s : State) : (setIE v s).rst55Line = s.rst55Line := rfl
@[simp] theorem setIE_rst65Line (v : Bool) (s : State) : (setIE v s).rst65Line = s.rst65Line := rfl
@[simp] theorem setIE_rst75Line (v : Bool) (s : State) : (setIE v s).rst75Line = s.rst75Line := rfl
@[simp] theorem setIE_trapLine (v : Bool) (s : State) : (setIE v s).trapLine = s.trapLine := rfl
@[simp] theorem setIE_trapCopyValid (v : Bool) (s : State) : (setIE v s).trapCopyValid = s.trapCopyValid := rfl
@[simp] theorem setIE_trapImCopy (v : Bool) (s : State) : (setIE v s).trapImCopy = s.trapImCopy := rfl
@[simp] theorem setIE_sod (v : Bool) (s : State) : (setIE v s).sod = s.sod := rfl
@[simp] theorem setIE_sid (v : Bool) (s : State) : (setIE v s).sid = s.sid := rfl
@[simp] theorem setIE_halt (v : Bool) (s : State) : (setIE v s).halt = s.halt := rfl
@[simp] theorem setIE_eiDelay (v : Bool) (s : State) : (setIE v s).eiDelay = s.eiDelay := rfl
@[simp] theorem setIE_status (v : Bool) (s : State) : (setIE v s).status = s.status := rfl
@[simp] theorem setIE_mem (v : Bool) (s : State) : (setIE v s).mem = s.mem := rfl
@[simp] theorem setIE_sidIn (v : Bool) (s : State) : (setIE v s).sidIn = s.sidIn := rfl
@[simp] theorem setIE_inta (v : Bool) (s : State) : (setIE v s).inta = s.inta := rfl
@[simp] theorem setIE_ioIn (v : Bool) (s : State) : (setIE v s).ioIn = s.ioIn := rfl
@[simp] theorem setIE_events (v : Bool) (s : State) : (setIE v s).events = .inteChanged v :: s.events := rfl
@[simp] theorem setIE_draws (v : Bool) (s : State) : (setIE v s).draws = s.draws := rfl

/-! ### setSOD -/

@[simp] theorem setSOD_cfg (v : Bool) (s : State) : (setSOD v s).cfg = s.cfg := rfl
@[simp] theorem setSOD_a (v : Bool) (s : State) : (setSOD v s).a = s.a := rfl
@[simp] theorem setSOD_b (v : Bool) (s : State) : (setSOD v s).b = s.b := rfl
@[simp] theorem setSOD_c (v : Bool) (s : State) : (setSOD v s).c = s.c := rfl
@[simp] theorem setSOD_d (v : Bool) (s : State) : (setSOD v s).d = s.d := rfl
@[simp] theorem setSOD_e (v : Bool) (s : State) : (setSOD v s).e = s.e := rfl
@[simp] theorem setSOD_h (v : Bool) (s : State) : (setSOD v s).h = s.h := rfl
@[simp] theorem setSOD_l (v : Bool) (s : State) : (setSOD v s).l = s.l := rfl
@[simp] theorem setSOD_f (v : Bool) (s : State) : (setSOD v s).f = s.f := rfl
@[simp] theorem setSOD_w (v : Bool) (s : State) : (setSOD v s).w = s.w := rfl
@[simp] theorem setSOD_z (v : Bool) (s : State) : (setSOD v s).z = s.z := rfl
@[simp] theorem setSOD_pc (v : Bool) (s : State) : (setSOD v s).pc = s.pc := rfl
@[simp] theorem setSOD_sp (v : Bool) (s : State) : (setSOD v s).sp = s.sp := rfl
@[simp] theorem setSOD_ie (v : Bool) (s : State) : (setSOD v s).ie = s.ie := rfl
@[simp] theorem setSOD_im (v : Bool) (s : State) : (setSOD v s).im = s.im := rfl
@[simp] theorem setSOD_p75 (v : Bool) (s : State) : (setSOD v s).p75 = s.p75 := rfl
@[simp] theorem setSOD_trapLatch (v : Bool) (s : State) : (setSOD v s).trapLatch = s.trapLatch := rfl
@[simp] theorem setSOD_intrLine (v : Bool) (s : State) : (setSOD v s).intrLine = s.intrLine := rfl
@[simp] theorem setSOD_rst55Line (v : Bool) (s : State) : (setSOD v s).rst55Line = s.rst55Line := rfl
@[simp] theorem setSOD_rst65Line (v : Bool) (s : State) : (setSOD v s).rst65Line = s.rst65Line := rfl
@[simp] theorem setSOD_rst75Line (v : Bool) (s : State) : (setSOD v s).rst75Line = s.rst75Line := rfl
@[simp] theorem setSOD_trapLine (v : Bool) (s : State) : (setSOD v s).trapLine = s.trapLine := rfl
@[simp] theorem setSOD_trapCopyValid (v : Bool) (s : State) : (setSOD v s).trapCopyValid = s.trapCopyValid := rfl
@[simp] theorem setSOD_trapImCopy (v : Bool) (s : State) : (setSOD v s).trapImCopy = s.trapImCopy := rfl
@[simp] theorem setSOD_sod (v : Bool) (s : State) : (setSOD v s).sod = v := rfl
@[simp] theorem setSOD_sid (v : Bool) (s : State) : (setSOD v s).sid = s.sid := rfl
@[simp] theorem setSOD_halt (v : Bool) (s : State) : (setSOD v s).halt = s.halt := rfl
@[simp] theorem setSOD_eiDelay (v : Bool) (s : State) : (setSOD v s).eiDelay = s.eiDelay := rfl
@[simp] theorem setSOD_status (v : Bool) (s : State) : (setSOD v s).status = s.status := rfl
@[simp] theorem setSOD_mem (v : Bool) (s : State) : (setSOD v s).mem = s.mem := rfl
@[simp] theorem setSOD_sidIn (v : Bool) (s : State) : (setSOD v s).sidIn = s.sidIn := rfl
@[simp] theorem setSOD_inta (v : Bool) (s : State) : (setSOD v s).inta = s.inta := rfl
@[simp] theorem setSOD_ioIn (v : Bool) (s : State) : (setSOD v s).ioIn = s.ioIn := rfl
@[simp] theorem setSOD_events (v : Bool) (s : State) : (setSOD v s).events = .sodChanged v :: s.events := rfl
@[simp] theorem setSOD_draws (v : Bool) (s : State) : (setSOD v s).draws = s.draws := rfl

/-! ### synthStatus -/

@[simp] theorem synthStatus_cfg (s : State) : (synthStatus s).cfg = s.cfg := rfl
@[simp] theorem synthStatus_a (s : State) : (synthStatus s).a = s.a := rfl
@[simp] theorem synthStatus_b (s : State) : (synthStatus s).b = s.b := rfl
@[simp] theorem synthStatus_c (s : State) : (synthStatus s).c = s.c := rfl
@[simp] theorem synthStatus_d (s : State) : (synthStatus s).d = s.d := rfl
@[simp] theorem synthStatus_e (s : State) : (synthStatus s).e = s.e := rfl
@[simp] theorem synthStatus_h (s : State) : (synthStatus s).h = s.h := rfl
@[simp] theorem synthStatus_l (s : State) : (synthStatus s).l = s.l := rfl
@[simp] theorem synthStatus_f (s : State) : (synthStatus s).f = s.f := rfl
@[simp] theorem synthStatus_w (s : State) : (synthStatus s).w = s.w := rfl
@[simp] theorem synthStatus_z (s : State) : (synthStatus s).z = s.z := rfl
@[simp] theorem synthStatus_pc (s : State) : (synthStatus s).pc = s.pc := rfl
@[simp] theorem synthStatus_sp (s : State) : (synthStatus s).sp = s.sp := rfl
@[simp] theorem synthStatus_ie (s : State) : (synthStatus s).ie = s.ie := rfl
@[simp] theorem synthStatus_im (s : State) : (synthStatus s).im = s.im := rfl
@[simp] theorem synthStatus_p75 (s : State) : (synthStatus s).p75 = s.p75 := rfl
@[simp] theorem synthStatus_trapLatch (s : State) : (synthStatus s).trapLatch = s.trapLatch := rfl
@[simp] theorem synthStatus_intrLine (s : State) : (synthStatus s).intrLine = s.intrLine := rfl
@[simp] theorem synthStatus_rst55Line (s : State) : (synthStatus s).rst55Line = s.rst55Line := rfl
@[simp] theorem synthStatus_rst65Line (s : State) : (synthStatus s).rst65Line = s.rst65Line := rfl
@[simp] theorem synthStatus_rst75Line (s : State) : (synthStatus s).rst75Line = s.rst75Line := rfl
@[simp] theorem synthStatus_trapLine (s : State) : (synthStatus s).trapLine = s.trapLine := rfl
@[simp] theorem synthStatus_trapCopyValid (s : State) : (synthStatus s).trapCopyValid = s.trapCopyValid := rfl
@[simp] theorem synthStatus_trapImCopy (s : State) : (synthStatus s).trapImCopy = s.trapImCopy := rfl
@[simp] theorem synthStatus_sod (s : State) : (synthStatus s).sod = s.sod := rfl
@[simp] theorem synthStatus_sid (s : State) : (synthStatus s).sid = s.sid := rfl
@[simp] theorem synthStatus_halt (s : State) : (synthStatus s).halt = s.halt := rfl
@[simp] theorem synthStatus_eiDelay (s : State) : (synthStatus s).eiDelay = s.eiDelay := rfl
@[simp] theorem synthStatus_mem (s : State) : (synthStatus s).mem = s.mem := rfl
@[simp] theorem synthStatus_sidIn (s : State) : (synthStatus s).sidIn = s.sidIn := rfl
@[simp] theorem synthStatus_inta (s : State) : (synthStatus s).inta = s.inta := rfl
@[simp] theorem synthStatus_ioIn (s : State) : (synthStatus s).ioIn = s.ioIn := rfl
@[simp] theorem synthStatus_events (s : State) : (synthStatus s).events = s.events := rfl
@[simp] theorem synthStatus_draws (s : State) : (synthStatus s).draws = s.draws + 1 := rfl

/-! ### setReg -/

@[simp] theorem setReg_cfg (s : State) (r : Reg) (v : Byte) : (s.setReg r v).cfg = s.cfg := by cases r <;> rfl
@[simp] theorem setReg_f (s : State) (r : Reg) (v : Byte) : (s.setReg r v).f = s.f := by cases r <;> rfl
@[simp] theorem setReg_w (s : State) (r : Reg) (v : Byte) : (s.setReg r v).w = s.w := by cases r <;> rfl
@[simp] theorem setReg_z (s : State) (r : Reg) (v : Byte) : (s.setReg r v).z = s.z := by cases r <;> rfl
@[simp] theorem setReg_pc (s : State) (r : Reg) (v : Byte) : (s.setReg r v).pc = s.pc := by cases r <;> rfl
@[simp] theorem setReg_sp (s : State) (r : Reg) (v : Byte) : (s.setReg r v).sp = s.sp := by cases r <;> rfl
@[simp] theorem setReg_ie (s : State) (r : Reg) (v : Byte) : (s.setReg r v).ie = s.ie := by cases r <;> rfl
@[simp] theorem setReg_im (s : State) (r : Reg) (v : Byte) : (s.setReg r v).im = s.im := by cases r <;> rfl
@[simp] theorem setReg_p75 (s : State) (r : Reg) (v : Byte) : (s.setReg r v).p75 = s.p75 := by cases r <;> rfl
@[simp] theorem setReg_trapLatch (s : State) (r : Reg) (v : Byte) : (s.setReg r v).trapLatch = s.trapLatch := by cases r <;> rfl
@[simp] theorem setReg_intrLine (s : State) (r : Reg) (v : Byte) : (s.setReg r v).intrLine = s.intrLine := by cases r <;> rfl
@[simp] theorem setReg_rst55Line (s : State) (r : Reg) (v : Byte) : (s.setReg r v).rst55Line = s.rst55Line := by cases r <;> rfl
@[simp] theorem setReg_rst65Line (s : State) (r : Reg) (v : Byte) : (s.setReg r v).rst65Line = s.rst65Line := by cases r <;> rfl
@[simp] theorem setReg_rst75Line (s : State) (r : Reg) (v : Byte) : (s.setReg r v).rst75Line = s.rst75Line := by cases r <;> rfl
@[simp] theorem setReg_trapLine (s : State) (r : Reg) (v : Byte) : (s.setReg r v).trapLine = s.trapLine := by cases r <;> rfl
@[simp] theorem setReg_trapCopyValid (s : State) (r : Reg) (v : Byte) : (s.setReg r v).trapCopyValid = s.trapCopyValid := by cases r <;> rfl
@[simp] theorem setReg_trapImCopy (s : State) (r : Reg) (v : Byte) : (s.setReg r v).trapImCopy = s.trapImCopy := by cases r <;> rfl
@[simp] theorem setReg_sod (s : State) (r : Reg) (v : Byte) : (s.setReg r v).sod = s.sod := by cases r <;> rfl
@[simp] theorem setReg_sid (s : State) (r : Reg) (v : Byte) : (s.setReg r v).sid = s.sid := by cases r <;> rfl
@[simp] theorem setReg_halt (s : State) (r : Reg) (v : Byte) : (s.setReg r v).halt = s.halt := by cases r <;> rfl
@[simp] theorem setReg_eiDelay (s : State) (r : Reg) (v : Byte) : (s.setReg r v).eiDelay = s.eiDelay := by cases r <;> rfl
@[simp] theorem setReg_status (s : State) (r : Reg) (v : Byte) : (s.setReg r v).status = s.status := by cases r <;> rfl
@[simp] theorem setReg_mem (s : State) (r : Reg) (v : Byte) : (s.setReg r v).mem = s.mem := by cases r <;> rfl
@[simp] theorem setReg_sidIn (s : State) (r : Reg) (v : Byte) : (s.setReg r v).sidIn = s.sidIn := by cases r <;> rfl
@[simp] theorem setReg_inta (s : State) (r : Reg) (v : Byte) : (s.setReg r v).inta = s.inta := by cases r <;> rfl
@[simp] theorem setReg_ioIn (s : State) (r : Reg) (v : Byte) : (s.setReg r v).ioIn = s.ioIn := by cases r <;> rfl
@[simp] theorem setReg_events (s : State) (r : Reg) (v : Byte) : (s.setReg r v).events = s.events := by cases r <;> rfl
@[simp] theorem setReg_draws (s : State) (r : Reg) (v : Byte) : (s.setReg r v).draws = s.draws := by cases r <;> rfl

/-! ### setPair -/

@[simp] theorem setPair_cfg (s : State) (rp : Pair) (v : Word) : (s.setPair rp v).cfg = s.cfg := by cases rp <;> rfl
@[simp] theorem setPair_a (s : State) (rp : Pair) (v : Word) : (s.setPair rp v).a = s.a := by cases rp <;> rfl
@[simp] theorem setPair_f (s : State) (rp : Pair) (v : Word) : (s.setPair rp v).f = s.f := by cases rp <;> rfl
@[simp] theorem setPair_w (s : State) (rp : Pair) (v : Word) : (s.setPair rp v).w = s.w := by cases rp <;> rfl
@[simp] theorem setPair_z (s : State) (rp : Pair) (v : Word) : (s.setPair rp v).z = s.z := by cases rp <;> rfl
@[simp] theorem setPair_pc (s : State) (rp : Pair) (v : Word) : (s.setPair rp v).pc = s.pc := by cases rp <;> rfl
@[simp] theorem setPair_ie (s : State) (rp : Pair) (v : Word) : (s.setPair rp v).ie = s.ie := by cases rp <;> rfl
@[simp] theorem setPair_im (s : State) (rp : Pair) (v : Word) : (s.setPair rp v).im = s.im := by cases rp <;> rfl
@[simp] theorem setPair_p75 (s : State) (rp : Pair) (v : Word) : (s.setPair rp v).p75 = s.p75 := by cases rp <;> rfl
@[simp] theorem setPair_trapLatch (s : State) (rp : Pair) (v : Word) : (s.setPair rp v).trapLatch = s.trapLatch := by cases rp <;> rfl
@[simp] theorem setPair_intrLine (s : State) (rp : Pair) (v : Word) : (s.setPair rp v).intrLine = s.intrLine := by cases rp <;> rfl
@[simp] theorem setPair_rst55Line (s : State) (rp : Pair) (v : Word) : (s.setPair rp v).rst55Line = s.rst55Line := by cases rp <;> rfl
@[simp] theorem setPair_rst65Line (s : State) (rp : Pair) (v : Word) : (s.setPair rp v).rst65Line = s.rst65Line := by cases rp <;> rfl
@[simp] theorem setPair_rst75Line (s : State) (rp : Pair) (v : Word) : (s.setPair rp v).rst75Line = s.rst75Line := by cases rp <;> rfl
@[simp] theorem setPair_trapLine (s : State) (rp : Pair) (v : Word) : (s.setPair rp v).trapLine = s.trapLine := by cases rp <;> rfl
@[simp] theorem setPair_trapCopyValid (s : State) (rp : Pair) (v : Word) : (s.setPair rp v).trapCopyValid = s.trapCopyValid := by cases rp <;> rfl
@[simp] theorem setPair_trapImCopy (s : State) (rp : Pair) (v : Word) : (s.setPair rp v).trapImCopy = s.trapImCopy := by cases rp <;> rfl
@[simp] theorem setPair_sod (s : State) (rp : Pair) (v : Word) : (s.setPair rp v).sod = s.sod := by cases rp <;> rfl
@[simp] theorem setPair_sid (s : State) (rp : Pair) (v : Word) : (s.setPair rp v).sid = s.sid := by cases rp <;> rfl
@[simp] theorem setPair_halt (s : State) (rp : Pair) (v : Word) : (s.setPair rp v).halt = s.halt := by cases rp <;> rfl
@[simp] theorem setPair_eiDelay (s : State) (rp : Pair) (v : Word) : (s.setPair rp v).eiDelay = s.eiDelay := by cases rp <;> rfl
@[simp] theorem setPair_status (s : State) (rp : Pair) (v : Word) : (s.setPair rp v).status = s.status := by cases rp <;> rfl
@[simp] theorem setPair_mem (s : State) (rp : Pair) (v : Word) : (s.setPair rp v).mem = s.mem := by cases rp <;> rfl
@[simp] theorem setPair_sidIn (s : State) (rp : Pair) (v : Word) : (s.setPair rp v).sidIn = s.sidIn := by cases rp <;> rfl
@[simp] theorem setPair_inta (s : State) (rp : Pair) (v : Word) : (s.setPair rp v).inta = s.inta := by cases rp <;> rfl
@[simp] theorem setPair_ioIn (s : State) (rp : Pair) (v : Word) : (s.setPair rp v).ioIn = s.ioIn := by cases rp <;> rfl
@[simp] theorem setPair_events (s : State) (rp : Pair) (v : Word) : (s.setPair rp v).events = s.events := by cases rp <;> rfl
@[simp] theorem setPair_draws (s : State) (rp : Pair) (v : Word) : (s.setPair rp v).draws = s.draws := by cases rp <;> rfl

/-! ### setDE -/

@[simp] theorem setDE_cfg (s : State) (v : Word) : (s.setDE v).cfg = s.cfg := rfl
@[simp] theorem setDE_a (s : State) (v : Word) : (s.setDE v).a = s.a := rfl
@[simp] theorem setDE_b (s : State) (v : Word) : (s.setDE v).b = s.b := rfl
@[simp] theorem setDE_c (s : State) (v : Word) : (s.setDE v).c = s.c := rfl
@[simp] theorem setDE_d (s : State) (v : Word) : (s.setDE v).d = Word.hi v := rfl
@[simp] theorem setDE_e (s : State) (v : Word) : (s.setDE v).e = Word.lo v := rfl
@[simp] theorem setDE_h (s : State) (v : Word) : (s.setDE v).h = s.h := rfl
@[simp] theorem setDE_l (s : State) (v : Word) : (s.setDE v).l = s.l := rfl
@[simp] theorem setDE_f (s : State) (v : Word) : (s.setDE v).f = s.f := rfl
@[simp] theorem setDE_w (s : State) (v : Word) : (s.setDE v).w = s.w := rfl
@[simp] theorem setDE_z (s : State) (v : Word) : (s.setDE v).z = s.z := rfl
@[simp] theorem setDE_pc (s : State) (v : Word) : (s.setDE v).pc = s.pc := rfl
@[simp] theorem setDE_sp (s : State) (v : Word) : (s.setDE v).sp = s.sp := rfl
@[simp] theorem setDE_ie (s : State) (v : Word) : (s.setDE v).ie = s.ie := rfl
@[simp] theorem setDE_im (s : State) (v : Word) : (s.setDE v).im = s.im := rfl
@[simp] theorem setDE_p75 (s : State) (v : Word) : (s.setDE v).p75 = s.p75 := rfl
@[simp] theorem setDE_trapLatch (s : State) (v : Word) : (s.setDE v).trapLatch = s.trapLatch := rfl
@[simp] theorem setDE_intrLine (s : State) (v : Word) : (s.setDE v).intrLine = s.intrLine := rfl
@[simp] theorem setDE_rst55Line (s : State) (v : Word) : (s.setDE v).rst55Line = s.rst55Line := rfl
@[simp] theorem setDE_rst65Line (s : State) (v : Word) : (s.setDE v).rst65Line = s.rst65Line := rfl
@[simp] theorem setDE_rst75Line (s : State) (v : Word) : (s.setDE v).rst75Line = s.rst75Line := rfl
@[simp] theorem setDE_trapLine (s : State) (v : Word) : (s.setDE v).trapLine = s.trapLine := rfl
@[simp] theorem setDE_trapCopyValid (s : State) (v : Word) : (s.setDE v).trapCopyValid = s.trapCopyValid := rfl
@[simp] theorem setDE_trapImCopy (s : State) (v : Word) : (s.setDE v).trapImCopy = s.trapImCopy := rfl
@[simp] theorem setDE_sod (s : State) (v : Word) : (s.setDE v).sod = s.sod := rfl
@[simp] theorem setDE_sid (s : State) (v : Word) : (s.setDE v).sid = s.sid := rfl
@[simp] theorem setDE_halt (s : State) (v : Word) : (s.setDE v).halt = s.halt := rfl
@[simp] theorem setDE_eiDelay (s : State) (v : Word) : (s.setDE v).eiDelay = s.eiDelay := rfl
@[simp] theorem setDE_status (s : State) (v : Word) : (s.setDE v).status = s.status := rfl
@[simp] theorem setDE_mem (s : State) (v : Word) : (s.setDE v).mem = s.mem := rfl
@[simp] theorem setDE_sidIn (s : State) (v : Word) : (s.setDE v).sidIn = s.sidIn := rfl
@[simp] theorem setDE_inta (s : State) (v : Word) : (s.setDE v).inta = s.inta := rfl
@[simp] theorem setDE_ioIn (s : State) (v : Word) : (s.setDE v).ioIn = s.ioIn := rfl
@[simp] theorem setDE_events (s : State) (v : Word) : (s.setDE v).events = s.events := rfl
@[simp] theorem setDE_draws (s : State) (v : Word) : (s.setDE v).draws = s.draws := rfl

/-! ### setHL -/

@[simp] theorem setHL_cfg (s : State) (v : Word) : (s.setHL v).cfg = s.cfg := rfl
@[simp] theorem setHL_a (s : State) (v : Word) : (s.setHL v).a = s.a := rfl
@[simp] theorem setHL_b (s : State) (v : Word) : (s.setHL v).b = s.b := rfl
@[simp] theorem setHL_c (s : State) (v : Word) : (s.setHL v).c = s.c := rfl
@[simp] theorem setHL_d (s : State) (v : Word) : (s.setHL v).d = s.d := rfl
@[simp] theorem setHL_e (s : State) (v : Word) : (s.setHL v).e = s.e := rfl
@[simp] theorem setHL_h (s : State) (v : Word) : (s.setHL v).h = Word.hi v := rfl
@[simp] theorem setHL_l (s : State) (v : Word) : (s.setHL v).l = Word.lo v := rfl
@[simp] theorem setHL_f (s : State) (v : Word) : (s.setHL v).f = s.f := rfl
@[simp] theorem setHL_w (s : State) (v : Word) : (s.setHL v).w = s.w := rfl
@[simp] theorem setHL_z (s : State) (v : Word) : (s.setHL v).z = s.z := rfl
@[simp] theorem setHL_pc (s : State) (v : Word) : (s.setHL v).pc = s.pc := rfl
@[simp] theorem setHL_sp (s : State) (v : Word) : (s.setHL v).sp = s.sp := rfl
@[simp] theorem setHL_ie (s : State) (v : Word) : (s.setHL v).ie = s.ie := rfl
@[simp] theorem setHL_im (s : State) (v : Word) : (s.setHL v).im = s.im := rfl
@[simp] theorem setHL_p75 (s : State) (v : Word) : (s.setHL v).p75 = s.p75 := rfl
@[simp] theorem setHL_trapLatch (s : State) (v : Word) : (s.setHL v).trapLatch = s.trapLatch := rfl
@[simp] theorem setHL_intrLine (s : State) (v : Word) : (s.setHL v).intrLine = s.intrLine := rfl
@[simp] theorem setHL_rst55Line (s : State) (v : Word) : (s.setHL v).rst55Line = s.rst55Line := rfl
@[simp] theorem setHL_rst65Line (s : State) (v : Word) : (s.setHL v).rst65Line = s.rst65Line := rfl
@[simp] theorem setHL_rst75Line (s : State) (v : Word) : (s.setHL v).rst75Line = s.rst75Line := rfl
@[simp] theorem setHL_trapLine (s : State) (v : Word) : (s.setHL v).trapLine = s.trapLine := rfl
@[simp] theorem setHL_trapCopyValid (s : State) (v : Word) : (s.setHL v).trapCopyValid = s.trapCopyValid := rfl
@[simp] theorem setHL_trapImCopy (s : State) (v : Word) : (s.setHL v).trapImCopy = s.trapImCopy := rfl
@[simp] theorem setHL_sod (s : State) (v : Word) : (s.setHL v).sod = s.sod := rfl
@[simp] theorem setHL_sid (s : State) (v : Word) : (s.setHL v).sid = s.sid := rfl
@[simp] theorem setHL_halt (s : State) (v : Word) : (s.setHL v).halt = s.halt := rfl
@[simp] theorem setHL_eiDelay (s : State) (v : Word) : (s.setHL v).eiDelay = s.eiDelay := rfl
@[simp] theorem setHL_status (s : State) (v : Word) : (s.setHL v).status = s.status := rfl
@[simp] theorem setHL_mem (s : State) (v : Word) : (s.setHL v).mem = s.mem := rfl
@[simp] theorem setHL_sidIn (s : State) (v : Word) : (s.setHL v).sidIn = s.sidIn := rfl
@[simp] theorem setHL_inta (s : State) (v : Word) : (s.setHL v).inta = s.inta := rfl
@[simp] theorem setHL_ioIn (s : State) (v : Word) : (s.setHL v).ioIn = s.ioIn := rfl
@[simp] theorem setHL_events (s : State) (v : Word) : (s.setHL v).events = s.events := rfl
@[simp] theorem setHL_draws (s : State) (v : Word) : (s.setHL v).draws = s.draws := rfl

/-! ### Registers -/

@[simp] theorem reg_setReg_same (s : State) (r : Reg) (v : Byte) : (s.setReg r v).reg r = v := by
  cases r <;> rfl

theorem reg_setReg_other (s : State) (r q : Reg) (v : Byte) (h : q ≠ r) :
    (s.setReg r v).reg q = s.reg q := by
  cases r <;> cases q <;> first | rfl | exact absurd rfl h

theorem word_of_hi_lo (v : Word) : Word.of (Word.hi v) (Word.lo v) = v := by
  apply BitVec.eq_of_toNat_eq
  simp

@[simp] theorem pair_setPair_same (s : State) (rp : Pair) (v : Word) :
    (s.setPair rp v).pair rp = v := by
  cases rp
  case sp => rfl
  all_goals exact word_of_hi_lo v

end Sys2Proof.Machine
end

