-- ==== Sys2Proof/Laws/Memory.lean ====
section
/-!
SUPPORT. The memory laws: a read after a write, and the canonical form, which every memory
operation keeps.
-/

namespace Sys2Proof.Machine

theorem Memory.read_of_wfFrom {lo x : Nat} {m : Memory} (h : Memory.wfFrom lo m = true)
    (hx : x < lo) : Memory.read x m = unlistedByte := by
  induction m generalizing lo with
  | nil => rfl
  | cons p m ih =>
    obtain ⟨a, v⟩ := p
    simp only [Memory.wfFrom, Bool.and_eq_true, decide_eq_true_eq] at h
    have hne : x ≠ a := by omega
    simpa [Memory.read, hne] using ih h.2 (by omega)

theorem Memory.wfFrom_mono {lo lo' : Nat} {m : Memory} (h : Memory.wfFrom lo m = true)
    (hle : lo' ≤ lo) : Memory.wfFrom lo' m = true := by
  cases m with
  | nil => rfl
  | cons p m =>
    simp only [Memory.wfFrom, Bool.and_eq_true, decide_eq_true_eq] at h ⊢
    exact ⟨⟨⟨by omega, h.1.1.2⟩, h.1.2⟩, h.2⟩

theorem Memory.wfFrom_write {lo x : Nat} {u : BitVec 8} {m : Memory}
    (h : Memory.wfFrom lo m = true) (hlo : lo ≤ x) (hx : x < 65536) :
    Memory.wfFrom lo (Memory.write x u m) = true := by
  induction m generalizing lo with
  | nil => by_cases hu : u = unlistedByte <;> simp [Memory.write, Memory.wfFrom, hu, hlo, hx]
  | cons p m ih =>
    obtain ⟨a, v⟩ := p
    have h' := h
    simp only [Memory.wfFrom, Bool.and_eq_true, decide_eq_true_eq] at h'
    obtain ⟨⟨⟨hla, ha⟩, hv⟩, hm⟩ := h'
    by_cases hxa : x < a
    · by_cases hu : u = unlistedByte
      · simpa [Memory.write, hxa, hu] using h
      · have hax : x + 1 ≤ a := hxa
        simp [Memory.write, hxa, hu, Memory.wfFrom, hlo, hx, hax, ha, hm, by simpa using hv]
    · by_cases hea : x = a
      · subst hea
        by_cases hu : u = unlistedByte
        · simpa [Memory.write, hu] using Memory.wfFrom_mono hm (by omega)
        · simp [Memory.write, hu, Memory.wfFrom, hlo, hx, hm]
      · have := ih hm (by omega)
        simp [Memory.write, hxa, hea, Memory.wfFrom, hla, ha, this, by simpa using hv]

/-- A write keeps the canonical form. -/
theorem Memory.wf_write {x : Nat} {u : BitVec 8} {m : Memory} (h : m.wf = true) (hx : x < 65536) :
    Memory.wf (Memory.write x u m) = true :=
  Memory.wfFrom_write h (Nat.zero_le x) hx

/-- A write leaves every other address alone. -/
theorem Memory.read_write_other {x y : Nat} {u : BitVec 8} {m : Memory} (h : y ≠ x) :
    Memory.read y (Memory.write x u m) = Memory.read y m := by
  induction m with
  | nil => by_cases hu : u = unlistedByte <;> simp [Memory.write, Memory.read, hu, h]
  | cons p m ih =>
    obtain ⟨a, v⟩ := p
    by_cases hxa : x < a
    · by_cases hu : u = unlistedByte <;> simp [Memory.write, Memory.read, hxa, hu, h]
    · by_cases hea : x = a
      · subst hea
        by_cases hu : u = unlistedByte <;> simp [Memory.write, Memory.read, hu, h]
      · simp [Memory.write, Memory.read, hxa, hea, ih]

/-- A read after a write to the same address gives the value written. -/
theorem Memory.read_write_same {x : Nat} {u : BitVec 8} {m : Memory} (h : m.wf = true) :
    Memory.read x (Memory.write x u m) = u := by
  suffices ∀ lo, Memory.wfFrom lo m = true → Memory.read x (Memory.write x u m) = u from this 0 h
  clear h
  induction m with
  | nil =>
    intro lo _
    by_cases hu : u = unlistedByte <;> simp [Memory.write, Memory.read, hu]
  | cons p m ih =>
    obtain ⟨a, v⟩ := p
    intro lo h
    have h' := h
    simp only [Memory.wfFrom, Bool.and_eq_true, decide_eq_true_eq] at h'
    by_cases hxa : x < a
    · by_cases hu : u = unlistedByte
      · have hne : x ≠ a := by omega
        simpa [Memory.write, Memory.read, hxa, hu, hne] using
          Memory.read_of_wfFrom h'.2 (show x < a + 1 by omega)
      · simp [Memory.write, Memory.read, hxa, hu]
    · by_cases hea : x = a
      · subst hea
        by_cases hu : u = unlistedByte
        · simpa [Memory.write, hu] using Memory.read_of_wfFrom h'.2 (show x < x + 1 by omega)
        · simp [Memory.write, Memory.read, hu]
      · simpa [Memory.write, Memory.read, hxa, hea] using ih (a + 1) h'.2

/-- `MemWrite` keeps the canonical form. -/
theorem memWrite_wf {x : Word} {v : Byte} {s : State} (h : s.mem.wf = true) :
    (memWrite x v s).mem.wf = true := by
  rw [memWrite_mem]
  split
  · exact h
  · exact Memory.wf_write h x.isLt

/-- `MemWrite16` keeps the canonical form. -/
theorem memWrite16_wf {x v : Word} {s : State} (h : s.mem.wf = true) :
    (memWrite16 x v s).mem.wf = true :=
  memWrite_wf (memWrite_wf h)

/-- `Push16` keeps the canonical form. -/
theorem push16_wf {v : Word} {s : State} (h : s.mem.wf = true) : (push16 v s).mem.wf = true := by
  refine memWrite_wf (s := { memWrite _ _ { s with sp := _ } with sp := _ }) ?_
  exact memWrite_wf (s := { s with sp := _ }) h

/-- A byte after `MemWrite`: the value at a plain-RAM address written, every other byte as it
was. -/
theorem memWrite_read {x : Word} {v : Byte} {s : State} (h : s.mem.wf = true) (y : Nat) :
    (memWrite x v s).mem.read y =
      if y = x.toNat ∧ s.cfg.isDevice x = false then v else s.mem.read y := by
  rw [memWrite_mem]
  by_cases hd : s.cfg.isDevice x = true
  · simp [hd]
  · by_cases hy : y = x.toNat
    · simp [hd, hy, Memory.read_write_same h]
    · simp [hd, hy, Memory.read_write_other hy]

/-- Every byte but the one addressed reads as before, whatever the memory. -/
theorem memWrite_read_other {x : Word} {v : Byte} {s : State} {y : Nat} (hy : y ≠ x.toNat) :
    (memWrite x v s).mem.read y = s.mem.read y := by
  rw [memWrite_mem]
  split
  · rfl
  · exact Memory.read_write_other hy

end Sys2Proof.Machine
end

