-- ==== Sys2Proof/Laws/Ops.lean ====
section
/-!
SUPPORT. For each shared operation, what it can do: its frame as an equation that names every
field it may change, and its result. For a step, one inversion lemma.
-/

namespace Sys2Proof.Machine

/-! ### Reads and writes of memory -/

theorem memRead_frame (x : Word) (s : State) :
    (memRead x s).2 = { s with
      draws := (memRead x s).2.draws
      events := .memRead x (memRead x s).1 :: s.events } := rfl

/-- A read of plain RAM. -/
theorem memRead_ram {x : Word} {s : State} (h : s.cfg.isDevice x = false) :
    memRead x s = (s.mem.read x.toNat, s.log (.memRead x (s.mem.read x.toNat))) := by
  simp [memRead, readValue, h, State.log]

/-- A read of a device address spends a free value. -/
theorem memRead_device {x : Word} {s : State} (h : s.cfg.isDevice x = true) :
    memRead x s = ((draw 8 s).1, (draw 8 s).2.log (.memRead x (draw 8 s).1)) := by
  simp [memRead, readValue, h, State.log, draw]

theorem memWrite_frame (x : Word) (v : Byte) (s : State) :
    memWrite x v s = { s with
      mem := (memWrite x v s).mem
      events := .memWrite x v :: s.events } := rfl

/-- A write to plain RAM. -/
theorem memWrite_ram {x : Word} {v : Byte} {s : State} (h : s.cfg.isDevice x = false) :
    (memWrite x v s).mem = s.mem.write x.toNat v := by
  simp [memWrite, h]

/-- A write to a device address keeps every byte. -/
theorem memWrite_device {x : Word} {v : Byte} {s : State} (h : s.cfg.isDevice x = true) :
    (memWrite x v s).mem = s.mem := by
  simp [memWrite, h]

theorem memRead16_frame (x : Word) (s : State) :
    (memRead16 x s).2 = { s with
      draws := (memRead16 x s).2.draws
      events := .memRead (x + 1#16) (memRead (x + 1#16) (memRead x s).2).1 ::
        .memRead x (memRead x s).1 :: s.events } := rfl

/-- A 16-bit read of plain RAM: the low byte at the address, the high byte after it. -/
theorem memRead16_ram {x : Word} {s : State} (h : s.cfg.isDevice x = false)
    (h1 : s.cfg.isDevice (x + 1#16) = false) :
    (memRead16 x s).1 = Word.of (s.mem.read (x + 1#16).toNat) (s.mem.read x.toNat) ∧
    (memRead16 x s).2.draws = s.draws := by
  simp [memRead16, memRead, readValue, h, h1]

theorem memWrite16_frame (x v : Word) (s : State) :
    memWrite16 x v s = { s with
      mem := (memWrite16 x v s).mem
      events := .memWrite (x + 1#16) (Word.hi v) :: .memWrite x (Word.lo v) :: s.events } := rfl

/-- Every byte outside the two addressed reads as before. -/
theorem memWrite16_read_other {x v : Word} {s : State} {y : Nat} (h : y ≠ x.toNat)
    (h1 : y ≠ (x + 1#16).toNat) : (memWrite16 x v s).mem.read y = s.mem.read y := by
  rw [memWrite16, memWrite_read_other h1, memWrite_read_other h]

/-- An address and its successor are two addresses. -/
theorem succ_ne (x : Word) : (x + 1#16).toNat ≠ x.toNat := by
  have := x.isLt
  simp only [BitVec.toNat_add]
  simp
  omega

theorem hi_of (h l : Byte) : Word.hi (Word.of h l) = h := by
  simp only [Word.hi, Word.of]
  exact BitVec.extractLsb'_append_eq_left

theorem lo_of (h l : Byte) : Word.lo (Word.of h l) = l := by
  simp only [Word.lo, Word.of]
  exact BitVec.extractLsb'_append_eq_right

/-! ### The stack -/

theorem push16_frame (v : Word) (s : State) :
    push16 v s = { s with
      sp := s.sp - 2#16
      mem := (push16 v s).mem
      events := .memWrite (s.sp - 2#16) (Word.lo v) :: .memWrite (s.sp - 1#16) (Word.hi v) ::
        s.events } := rfl

/-- The two bytes `Push16` stores, as two writes of memory. -/
theorem push16_mem (v : Word) (s : State) :
    (push16 v s).mem =
      (memWrite (s.sp - 2#16) (Word.lo v) (memWrite (s.sp - 1#16) (Word.hi v) s)).mem := rfl

theorem pop16_frame (s : State) :
    (pop16 s).2 = { s with
      sp := s.sp + 2#16
      draws := (pop16 s).2.draws
      events := (memRead16 s.sp s).2.events } := rfl

/-- `Pop16` reads what a 16-bit read at SP reads. -/
theorem pop16_fst (s : State) : (pop16 s).1 = (memRead16 s.sp s).1 := rfl

theorem callTo_frame (target : Word) (s : State) :
    callTo target s = { s with
      pc := target
      sp := s.sp - 2#16
      mem := (push16 s.pc s).mem
      events := .memWrite (s.sp - 2#16) (Word.lo s.pc) ::
        .memWrite (s.sp - 1#16) (Word.hi s.pc) :: s.events } := rfl

theorem callTo_wf {target : Word} {s : State} (h : s.mem.wf = true) :
    (callTo target s).mem.wf = true := push16_wf h

theorem returnPC_frame (s : State) :
    returnPC s = { s with
      pc := (memRead16 s.sp s).1
      sp := s.sp + 2#16
      draws := (memRead16 s.sp s).2.draws
      events := (memRead16 s.sp s).2.events } := rfl

/-! ### Flags in the state -/

theorem fixF_frame (s : State) :
    fixF s = { s with f := (fixF s).f, draws := (fixF s).draws } := rfl

/-- FixF keeps the five documented flags. -/
theorem fixF_documented (s : State) :
    flagS (fixF s).f = flagS s.f ∧ flagZ (fixF s).f = flagZ s.f ∧
    flagAC (fixF s).f = flagAC s.f ∧ flagP (fixF s).f = flagP s.f ∧
    flagCY (fixF s).f = flagCY s.f := by
  simp [fixF]

/-- FixF on the 8080 variants: bits 5, 3, 1 at 0, 0, 1 and no free value spent. -/
theorem fixF_8080 {s : State} (h : s.cfg.variant.is8080 = true) :
    flagK (fixF s).f = false ∧ flagX3 (fixF s).f = false ∧ flagV (fixF s).f = true ∧
    (fixF s).draws = s.draws := by
  simp [fixF, undocValue, h]

/-- FixF on the I8085A: bits 5, 3, 1 are the next free value. -/
theorem fixF_8085 {s : State} (h : s.cfg.variant.is8080 = false) :
    flagK (fixF s).f = (Config.freeValue s.draws).getLsbD 2 ∧
    flagX3 (fixF s).f = (Config.freeValue s.draws).getLsbD 1 ∧
    flagV (fixF s).f = (Config.freeValue s.draws).getLsbD 0 ∧
    (fixF s).draws = s.draws + 1 := by
  simp [fixF, undocValue, h, draw]

theorem aluToA_frame (o : AluOut) (s : State) :
    aluToA o s = { s with
      a := o.res
      f := (aluToA o s).f
      draws := (aluToA o s).draws } := rfl

/-- The documented flags after an ALU result. -/
theorem aluToA_flags (o : AluOut) (s : State) :
    flagS (aluToA o s).f = o.res.getLsbD 7 ∧ flagZ (aluToA o s).f = decide (o.res = 0x00#8) ∧
    flagAC (aluToA o s).f = o.ac ∧ flagP (aluToA o s).f = decide (popcount o.res % 2 = 0) ∧
    flagCY (aluToA o s).f = o.cy := by
  simp [aluToA, fixF]

theorem setCarry_frame (cy : Bool) (s : State) :
    setCarry cy s = { s with f := (setCarry cy s).f, draws := (setCarry cy s).draws } := rfl

/-- A carry write keeps the other documented flags. -/
theorem setCarry_flags (cy : Bool) (s : State) :
    flagS (setCarry cy s).f = flagS s.f ∧ flagZ (setCarry cy s).f = flagZ s.f ∧
    flagAC (setCarry cy s).f = flagAC s.f ∧ flagP (setCarry cy s).f = flagP s.f ∧
    flagCY (setCarry cy s).f = cy := by
  simp [setCarry, fixF]

/-! ### IO -/

theorem ioRead_frame (x : Word) (s : State) :
    (ioRead x s).2 = { s with
      draws := (ioRead x s).2.draws
      events := .ioRead x (ioRead x s).1 :: s.events } := rfl

theorem readSid_frame (s : State) :
    (readSid s).2 = { s with
      sid := (readSid s).1
      draws := (readSid s).2.draws
      events := (readSid s).2.events } := rfl

/-! ### Fetch -/

theorem fetch8_frame (s : State) :
    (fetch8 s).2 = { s with
      pc := s.pc + 1#16
      draws := (memRead s.pc s).2.draws
      events := .memRead s.pc (fetch8 s).1 :: s.events } := rfl

theorem fetch8_ram {s : State} (h : s.cfg.isDevice s.pc = false) :
    fetch8 s = (s.mem.read s.pc.toNat, { s with
      pc := s.pc + 1#16
      events := .memRead s.pc (s.mem.read s.pc.toNat) :: s.events }) := by
  simp [fetch8, memRead_ram h, State.log]

theorem fetchInstr_one {s : State} (h : opLength s.cfg.variant (fetch8 s).1 = .one) :
    fetchInstr s = (decodeOp s.cfg.variant (fetch8 s).1 0x00#8 0x00#8, (fetch8 s).2) := by
  simp only [fetchInstr, h]

theorem fetchInstr_two {s : State} (h : opLength s.cfg.variant (fetch8 s).1 = .two) :
    fetchInstr s = (decodeOp s.cfg.variant (fetch8 s).1 (fetch8 (fetch8 s).2).1 0x00#8,
      (fetch8 (fetch8 s).2).2) := by
  simp only [fetchInstr, h]

theorem fetchInstr_three {s : State} (h : opLength s.cfg.variant (fetch8 s).1 = .three) :
    fetchInstr s = (decodeOp s.cfg.variant (fetch8 s).1 (Word.lo (fetch16 (fetch8 s).2).1)
      (Word.hi (fetch16 (fetch8 s).2).1), (fetch16 (fetch8 s).2).2) := by
  simp only [fetchInstr, h]

/-- A fetch changes PC, the scratch pair, the count of free values and the events, nothing else. -/
theorem fetchInstr_frame (s : State) :
    (fetchInstr s).2 = { s with
      pc := (fetchInstr s).2.pc
      w := (fetchInstr s).2.w
      z := (fetchInstr s).2.z
      draws := (fetchInstr s).2.draws
      events := (fetchInstr s).2.events } := by
  cases h : opLength s.cfg.variant (fetch8 s).1
  · rw [fetchInstr_one h]; rfl
  · rw [fetchInstr_two h]; simp only [fetch8, memRead]
  · rw [fetchInstr_three h]; simp only [fetch16, fetch8, memRead]

/-- PC after a fetch is past the instruction's bytes. -/
theorem fetchInstr_pc (s : State) :
    (fetchInstr s).2.pc = s.pc + BitVec.ofNat 16 (opLength s.cfg.variant (fetch8 s).1).toNat := by
  cases h : opLength s.cfg.variant (fetch8 s).1
  · rw [fetchInstr_one h]; rfl
  · rw [fetchInstr_two h]
    show s.pc + 1#16 + 1#16 = s.pc + BitVec.ofNat 16 2
    rw [BitVec.add_assoc]
    rfl
  · rw [fetchInstr_three h]
    show s.pc + 1#16 + 1#16 + 1#16 = s.pc + BitVec.ofNat 16 3
    rw [BitVec.add_assoc, BitVec.add_assoc]
    rfl

/-! ### Interrupt entry -/

theorem enterCommon_frame (s : State) :
    enterCommon s = { s with
      ie := false
      halt := false
      events := .inteChanged false :: s.events } := rfl

/-- Everything an entry that completes can do: the source, its target, and the frame. -/
theorem enter_cases {src : Source} {s t : State} (h : enter src s = .next t) :
    (src = .trap ∧ t = { callTo 0x0024#16 { enterCommon s with
      trapImCopy := s.ieIm, trapCopyValid := true } with trapLatch := false }) ∨
    (src = .rst75 ∧ t = { callTo 0x003C#16 (enterCommon s) with p75 := false }) ∨
    (src = .rst65 ∧ t = callTo 0x0034#16 (enterCommon s)) ∨
    (src = .rst55 ∧ t = callTo 0x002C#16 (enterCommon s)) ∨
    (src = .intr ∧ ∃ bytes target, s.inta = some bytes ∧ ackTarget bytes = some target ∧
      t = callTo target ((enterCommon s).log (.acknowledge bytes))) := by
  cases src with
  | trap => exact .inl ⟨rfl, by injection h with h; exact h.symm⟩
  | rst75 => exact .inr (.inl ⟨rfl, by injection h with h; exact h.symm⟩)
  | rst65 => exact .inr (.inr (.inl ⟨rfl, by injection h with h; exact h.symm⟩))
  | rst55 => exact .inr (.inr (.inr (.inl ⟨rfl, by injection h with h; exact h.symm⟩)))
  | intr =>
    refine .inr (.inr (.inr (.inr ⟨rfl, ?_⟩)))
    have hi : (enterCommon s).inta = s.inta := rfl
    simp only [enter, enterIntr, hi] at h
    cases hb : s.inta with
    | none => simp [hb] at h
    | some bytes =>
      cases ht : ackTarget bytes with
      | none => simp [hb, ht] at h
      | some target =>
        simp only [hb, ht] at h
        injection h with h
        exact ⟨bytes, target, rfl, ht, h.symm⟩

/-- An entry is refused only for INTR without an admitted acknowledge, and none faults. -/
theorem enter_refused {src : Source} {s : State} {r : Refusal} (h : enter src s = .refused r) :
    src = .intr ∧
      ((s.inta = none ∧ r = .noAcknowledge) ∨
       (∃ bytes, s.inta = some bytes ∧ ackTarget bytes = none ∧
         r = .unsupportedAcknowledge)) := by
  cases src with
  | intr =>
    refine ⟨rfl, ?_⟩
    have hi : (enterCommon s).inta = s.inta := rfl
    simp only [enter, enterIntr, hi] at h
    cases hb : s.inta with
    | none => simp [hb] at h; exact .inl ⟨rfl, h.symm⟩
    | some bytes =>
      cases ht : ackTarget bytes with
      | none => simp [hb, ht] at h; exact .inr ⟨bytes, rfl, ht, h.symm⟩
      | some target => simp [hb, ht] at h
  | trap => simp [enter] at h
  | rst75 => simp [enter] at h
  | rst65 => simp [enter] at h
  | rst55 => simp [enter] at h

/-! ### The step -/

/-- What a step does past the arbitration point. -/
theorem fetchAndRun_cases {s t : State} (h : fetchAndRun s = .next t) :
    (s.halt = true ∧ t = s) ∨
    (s.halt = false ∧ refusesOpcode s.cfg (fetchInstr (synthStatus s)).1 = false ∧
      exec (fetchInstr (synthStatus s)).1 (fetchInstr (synthStatus s)).2 = .next t) := by
  unfold fetchAndRun at h
  cases hh : s.halt with
  | true =>
    simp only [hh, if_true] at h
    injection h with h
    exact .inl ⟨rfl, h.symm⟩
  | false =>
    simp only [hh, Bool.false_eq_true, if_false] at h
    cases hr : refusesOpcode s.cfg (fetchInstr (synthStatus s)).1 with
    | true => simp [hr] at h
    | false => exact .inr ⟨rfl, rfl, by simpa [hr] using h⟩

/-- Everything a step that completes can do: an entry, an idle step, or one instruction. -/
theorem step_cases {s t : State} (h : step s = .next t) :
    (∃ src, s.eiDelay = false ∧ arbitrate s = some src ∧ enter src (synthStatus s) = .next t) ∨
    ((s.eiDelay = true ∨ arbitrate s = none) ∧ s.halt = true ∧ t = { s with eiDelay := false }) ∨
    ((s.eiDelay = true ∨ arbitrate s = none) ∧ s.halt = false ∧
      ∃ i u, fetchInstr (synthStatus { s with eiDelay := false }) = (i, u) ∧
        refusesOpcode s.cfg i = false ∧ exec i u = .next t) := by
  have key : ∀ u : State, u = { s with eiDelay := false } → fetchAndRun u = .next t →
      (s.halt = true ∧ t = { s with eiDelay := false }) ∨ (s.halt = false ∧
        ∃ i v, fetchInstr (synthStatus { s with eiDelay := false }) = (i, v) ∧
          refusesOpcode s.cfg i = false ∧ exec i v = .next t) := by
    intro u hu hf
    subst hu
    obtain ⟨h1, h2⟩ | ⟨h1, h2, h3⟩ := fetchAndRun_cases hf
    · exact .inl ⟨h1, h2⟩
    · exact .inr ⟨h1, _, _, rfl, h2, h3⟩
  unfold step at h
  cases he : s.eiDelay with
  | true =>
    simp only [he, if_true] at h
    obtain h' | h' := key _ rfl h
    · exact .inr (.inl ⟨.inl rfl, h'⟩)
    · exact .inr (.inr ⟨.inl rfl, h'⟩)
  | false =>
    simp only [he, Bool.false_eq_true, if_false] at h
    cases ha : arbitrate s with
    | some src => exact .inl ⟨src, rfl, rfl, by simpa [ha] using h⟩
    | none =>
      simp only [ha] at h
      have hs : s = { s with eiDelay := false } := by cases s; simp_all
      obtain h' | h' := key _ hs h
      · exact .inr (.inl ⟨.inr rfl, h'⟩)
      · exact .inr (.inr ⟨.inr rfl, h'⟩)

end Sys2Proof.Machine
end

