-- ==== Sys2Proof/Laws/Claims.lean ====
section
/-!
SUPPORT. The words of the statements (`Sys2Proof.Claims`) tied to the shared operations: what a
read answers, where a write lands, what FixF and an import of F leave, a call, a return.
-/

namespace Sys2Proof.Claims

open Sys2Proof Sys2Proof.Machine

theorem is8080_iff (v : Variant) : v.is8080 = true ↔ v ≠ .i8085a := by
  cases v <;> simp [Variant.is8080]

theorem not_is8080_iff (v : Variant) : v.is8080 = false ↔ v = .i8085a := by
  cases v <;> simp [Variant.is8080]

theorem evenOnes_eq (v : Byte) : evenOnes v = decide (popcount v % 2 = 0) := by
  revert v; decide

/-! ### Flags -/

theorem undocAfter_fixF {s u : State} (hc : u.cfg = s.cfg) (hd : u.draws = s.draws) :
    UndocAfter s (fixF u) := by
  refine ⟨fun h => ?_, fun h => ?_⟩
  · have := fixF_8080 (s := u) (by rw [hc, is8080_iff]; exact h)
    simpa [flagK, flagX3, flagV, hd] using this
  · have := fixF_8085 (s := u) (by rw [hc, not_is8080_iff]; exact h)
    simpa [flagK, flagX3, flagV, hd] using this

theorem resultFlags_aluToA (o : AluOut) (s : State) : ResultFlags (aluToA o s).f o.res := by
  have := aluToA_flags o s
  simp only [flagS, flagZ, flagP] at this
  refine ⟨this.1, ?_, ?_⟩
  · rw [this.2.1]; simp [BitVec.toNat_eq]
  · rw [this.2.2.2.1, evenOnes_eq]

theorem addResult_addA (c : Bool) (s : State) (v : Byte) : AddResult c s v (addA v c s) := by
  have h := add8_spec s.a v c
  have hf := aluToA_flags (add8 s.a v c) s
  simp only [flagAC, flagCY] at hf
  refine ⟨h.1, resultFlags_aluToA _ _, ?_, ?_, undocAfter_fixF rfl rfl, rfl⟩
  · rw [addA, hf.2.2.2.2, h.2.1]; simp; omega
  · rw [addA, hf.2.2.1, h.2.2]; simp; omega

theorem subFlags_subA (c : Bool) (s : State) (v : Byte) :
    SubFlags c s v (sub8 s.a v c).res (aluToA (sub8 s.a v c) s).f := by
  have h := sub8_spec s.a v c
  have hf := aluToA_flags (sub8 s.a v c) s
  simp only [flagAC, flagCY] at hf
  have hv := v.isLt
  have ha := s.a.isLt
  have hc := Bool.toNat_le c
  refine ⟨by rw [h.1]; push_cast; omega, resultFlags_aluToA _ _, ?_, ?_⟩
  · rw [hf.2.2.2.2, h.2.1]
  · rw [hf.2.2.1, h.2.2]

/-- FixF after an update that keeps F. -/
theorem keepsFlags_fixF {s u : State} (hc : u.cfg = s.cfg) (hd : u.draws = s.draws)
    (hf : u.f = s.f) :
    (fixF u).f.getLsbD 0 = s.f.getLsbD 0 ∧ KeepsSZAP s (fixF u) ∧ UndocAfter s (fixF u) := by
  have h := fixF_documented u
  simp only [flagS, flagZ, flagAC, flagP, flagCY, hf] at h
  exact ⟨h.2.2.2.2, ⟨h.1, h.2.1, h.2.2.1, h.2.2.2.1⟩, undocAfter_fixF hc hd⟩

/-- FixF after a carry write. -/
theorem carryOnly_fixF {s u : State} {cy : Bool} (hc : u.cfg = s.cfg) (hd : u.draws = s.draws)
    (hf : u.f = putCY cy s.f) : CarryOnly s (fixF u) cy := by
  have h := fixF_documented u
  simp only [hf, flagS_putCY, flagZ_putCY, flagAC_putCY, flagP_putCY, flagCY_putCY] at h
  simp only [flagS, flagZ, flagAC, flagP, flagCY] at h
  exact ⟨h.2.2.2.2, ⟨h.1, h.2.1, h.2.2.1, h.2.2.2.1⟩, undocAfter_fixF hc hd⟩

/-- FixF after the flags of INR or DCR. -/
theorem countFlags_fixF {s u : State} {res : Byte} {ac : Bool} (hc : u.cfg = s.cfg)
    (hd : u.draws = s.draws) (hf : u.f = putAC ac (setSZP res s.f)) :
    CountFlags s (fixF u) res ac := by
  have h := fixF_documented u
  simp only [hf, flagS_putAC, flagZ_putAC, flagAC_putAC, flagP_putAC, flagCY_putAC, flagS_setSZP,
    flagZ_setSZP, flagP_setSZP, flagCY_setSZP] at h
  simp only [flagS, flagZ, flagAC, flagP, flagCY] at h
  refine ⟨⟨h.1, ?_, ?_⟩, h.2.2.1, h.2.2.2.2, undocAfter_fixF hc hd⟩
  · rw [h.2.1]; simp [BitVec.toNat_eq]
  · rw [h.2.2.2.1, evenOnes_eq]

theorem condHolds_eq (cc : Cond) (f : Byte) : condHolds cc f = condMet cc.code f := by
  cases cc <;> simp [condHolds, condMet, Cond.code, flagZ, flagCY, flagP, flagS]

/-! ### Registers -/

theorem regSet_setReg (s : State) (r : Reg) (v : Byte) : RegSet s (s.setReg r v) r v :=
  ⟨reg_setReg_same _ _ _, fun _ h => reg_setReg_other _ _ _ _ h⟩

theorem pairSet_of {s u : State} {rp : Pair} {v : Word}
    (h : ∀ q, u.pair q = (s.setPair rp v).pair q) (ha : u.a = s.a) : PairSet s u rp v := by
  refine ⟨by rw [h]; exact pair_setPair_same _ _ _, ha, ?_⟩
  intro q hq
  rw [h]
  cases rp <;> cases q <;> first | rfl | exact absurd rfl hq

/-- What R35 forces on the 8080 variants, bit by bit. -/
theorem putUndoc_fixed8080 (b : Byte) :
    (putUndoc fixed8080 b).getLsbD 5 = false ∧ (putUndoc fixed8080 b).getLsbD 3 = false ∧
    (putUndoc fixed8080 b).getLsbD 1 = true ∧
    ∀ k, k < 8 → k ≠ 5 → k ≠ 3 → k ≠ 1 → (putUndoc fixed8080 b).getLsbD k = b.getLsbD k := by
  revert b; decide

/-- A state whose F an import of AF or F left. -/
theorem importedF_of {s t : State} {v : Word} (h : t.f = forceF s.cfg.variant (Word.lo v)) :
    ImportedF s t v := by
  refine ⟨fun hv => ?_, fun hv => ?_⟩
  · rw [h, hv]; rfl
  · obtain ⟨h5, h3, h1, hk⟩ := putUndoc_fixed8080 (Word.lo v)
    rw [h, forceF, if_pos ((is8080_iff _).2 hv)]
    refine ⟨h5, h3, h1, fun k l k5 k3 k1 => ?_⟩
    rw [hk k l k5 k3 k1]; simp [Word.lo, l]

/-! ### Memory -/

theorem loaded_memRead (x : Word) (s : State) :
    Loaded s x (memRead x s).1 (memRead x s).2.draws := by
  constructor <;> intro h
  · rw [memRead_ram h]; exact ⟨rfl, rfl⟩
  · rw [memRead_device h]; exact ⟨rfl, rfl⟩

theorem loaded2_memRead16 (x : Word) (s : State) :
    Loaded2 s x (memRead16 x s).1 (memRead16 x s).2.draws := by
  refine ⟨(memRead x s).2.draws, ?_, ?_⟩
  · have : Word.lo (memRead16 x s).1 = (memRead x s).1 := lo_of _ _
    rw [this]; exact loaded_memRead _ _
  · have : Word.hi (memRead16 x s).1 = (memRead (x + 1#16) (memRead x s).2).1 := hi_of _ _
    rw [this]; exact loaded_memRead (x + 1#16) (memRead x s).2

theorem memRead16_loaded2Events (x : Word) (s : State) :
    (memRead16 x s).2.events = loaded2Events x (memRead16 x s).1 ++ s.events := by
  have h : Word.hi (memRead16 x s).1 = (memRead (x + 1#16) (memRead x s).2).1 := hi_of _ _
  have l : Word.lo (memRead16 x s).1 = (memRead x s).1 := lo_of _ _
  rw [loaded2Events, h, l]
  rfl

/-- A state whose memory is what one write in a state with the same memory left. -/
theorem stored_of {s u t : State} {x : Word} {v : Byte} (hc : u.cfg = s.cfg) (hm : u.mem = s.mem)
    (ht : t.mem = (memWrite x v u).mem) : Stored s t x v := by
  refine ⟨fun hw hd => ?_, fun hd => ?_, fun y hy => ?_, fun hw => ?_⟩
  · rw [ht, memWrite_read (by rw [hm]; exact hw)]; simp [hc, hd]
  · rw [ht, memWrite_device (by rw [hc]; exact hd), hm]
  · rw [ht, memWrite_read_other hy, hm]
  · rw [ht]; exact memWrite_wf (by rw [hm]; exact hw)

/-- A state whose memory is what the two writes of a 16-bit value left, in either order. -/
theorem stored2_of {s u t : State} {x v : Word} (hc : u.cfg = s.cfg) (hm : u.mem = s.mem)
    (ht : t.mem = (memWrite (x + 1#16) (Word.hi v) (memWrite x (Word.lo v) u)).mem ∨
      t.mem = (memWrite x (Word.lo v) (memWrite (x + 1#16) (Word.hi v) u)).mem) :
    Stored2 s t x v := by
  have n1 := succ_ne x
  have d0 : ∀ y, (memWrite x (Word.lo v) u).cfg.isDevice y = s.cfg.isDevice y := fun y => by
    rw [← hc]; rfl
  have d1 : ∀ y, (memWrite (x + 1#16) (Word.hi v) u).cfg.isDevice y = s.cfg.isDevice y :=
    fun y => by rw [← hc]; rfl
  have wf : s.mem.wf = true → u.mem.wf = true := fun h => by rw [hm]; exact h
  refine ⟨fun hw hd => ?_, fun hw hd => ?_, fun hd => ?_, fun hd => ?_, fun y hy hy1 => ?_,
    fun hw => ?_⟩
  all_goals rcases ht with ht | ht <;> rw [ht]
  · rw [memWrite_read_other n1.symm, memWrite_read (wf hw)]; simp [hc, hd]
  · rw [memWrite_read (memWrite_wf (wf hw)), d1, hd]; simp
  · rw [memWrite_read (memWrite_wf (wf hw)), d0, hd]; simp
  · rw [memWrite_read_other n1, memWrite_read (wf hw)]; simp [hc, hd]
  · rw [memWrite_read_other n1.symm, memWrite_device (by rw [hc]; exact hd), hm]
  · rw [memWrite_device (by rw [d1]; exact hd), memWrite_read_other n1.symm, hm]
  · rw [memWrite_device (by rw [d0]; exact hd), memWrite_read_other n1, hm]
  · rw [memWrite_read_other n1, memWrite_device (by rw [hc]; exact hd), hm]
  · rw [memWrite_read_other hy1, memWrite_read_other hy, hm]
  · rw [memWrite_read_other hy, memWrite_read_other hy1, hm]
  · exact memWrite_wf (memWrite_wf (wf hw))
  · exact memWrite_wf (memWrite_wf (wf hw))

theorem sp_sub_two_succ (x : Word) : x - 2#16 + 1#16 = x - 1#16 := by bv_omega

/-- A state whose memory is what a push in a state with the same memory and SP left. -/
theorem stored2_push16 {s u t : State} {v : Word} (hc : u.cfg = s.cfg) (hm : u.mem = s.mem)
    (hs : u.sp = s.sp) (ht : t.mem = (push16 v u).mem) : Stored2 s t (s.sp - 2#16) v := by
  refine stored2_of hc hm (.inr ?_)
  rw [sp_sub_two_succ, ht, push16_mem, hs]

/-! ### Control transfer -/

theorem called_callTo (s : State) (x : Word) : Called s (callTo x s) x :=
  ⟨stored2_push16 rfl rfl rfl rfl, rfl⟩

theorem returned_returnPC (s : State) : Returned s (returnPC s) := by
  refine ⟨loaded2_memRead16 _ _, ?_⟩
  rw [returnPC_frame, memRead16_loaded2Events]

end Sys2Proof.Claims
end

