-- ==== Sys2Proof/Laws/PerInstr.lean ====
section
/-!
SUPPORT. A family of statements about every instruction as syntax: the encoder and the length
table agree (30_encoding.md R121).
-/

namespace Sys2Proof.Laws.EncodedLength

/-- On every variant that has the instruction, its encoding is as long as its opcode byte says. -/
def Statement (i : Instr) : Prop :=
  ∀ v : Variant, i.wf v = true →
    (encode i).length = (opLength v ((encode i).headD 0x00#8)).toNat

theorem movRR (dst : Reg) (src : Reg) : Statement (.movRR dst src) := by
  intro v _
  show 1 = (opLength v (opXYZ 0b01#2 dst.code src.code)).toNat
  cases v <;> cases dst <;> cases src <;> decide

theorem movRM (dst : Reg) : Statement (.movRM dst) := by
  intro v _
  show 1 = (opLength v (opXYZ 0b01#2 dst.code 0b110#3)).toNat
  cases v <;> cases dst <;> decide

theorem movMR (src : Reg) : Statement (.movMR src) := by
  intro v _
  show 1 = (opLength v (opXYZ 0b01#2 0b110#3 src.code)).toNat
  cases v <;> cases src <;> decide

theorem mviR (dst : Reg) (d8 : Byte) : Statement (.mviR dst d8) := by
  intro v _
  show 2 = (opLength v (opXYZ 0b00#2 dst.code 0b110#3)).toNat
  cases v <;> cases dst <;> decide

theorem mviM (d8 : Byte) : Statement (.mviM d8) := by
  intro v _
  show 2 = (opLength v 0b00110110#8).toNat
  cases v <;> decide

theorem lxi (rp : Pair) (d16 : Word) : Statement (.lxi rp d16) := by
  intro v _
  show 3 = (opLength v (opPair 0b00#2 rp.code 0b0001#4)).toNat
  cases v <;> cases rp <;> decide

theorem lda (a16 : Word) : Statement (.lda a16) := by
  intro v _
  show 3 = (opLength v 0b00111010#8).toNat
  cases v <;> decide

theorem sta (a16 : Word) : Statement (.sta a16) := by
  intro v _
  show 3 = (opLength v 0b00110010#8).toNat
  cases v <;> decide

theorem lhld (a16 : Word) : Statement (.lhld a16) := by
  intro v _
  show 3 = (opLength v 0b00101010#8).toNat
  cases v <;> decide

theorem shld (a16 : Word) : Statement (.shld a16) := by
  intro v _
  show 3 = (opLength v 0b00100010#8).toNat
  cases v <;> decide

theorem ldax (rp : IndPair) : Statement (.ldax rp) := by
  intro v _
  show 1 = (opLength v (0b000#3 ++ rp.code ++ 0b1010#4)).toNat
  cases v <;> cases rp <;> decide

theorem stax (rp : IndPair) : Statement (.stax rp) := by
  intro v _
  show 1 = (opLength v (0b000#3 ++ rp.code ++ 0b0010#4)).toNat
  cases v <;> cases rp <;> decide

theorem xchg : Statement .xchg := by
  intro v _
  show 1 = (opLength v 0b11101011#8).toNat
  cases v <;> decide

theorem addR (src : Reg) : Statement (.addR src) := by
  intro v _
  show 1 = (opLength v (opXYZ 0b10#2 0b000#3 src.code)).toNat
  cases v <;> cases src <;> decide

theorem addM : Statement .addM := by
  intro v _
  show 1 = (opLength v 0b10000110#8).toNat
  cases v <;> decide

theorem adi (d8 : Byte) : Statement (.adi d8) := by
  intro v _
  show 2 = (opLength v 0b11000110#8).toNat
  cases v <;> decide

theorem adcR (src : Reg) : Statement (.adcR src) := by
  intro v _
  show 1 = (opLength v (opXYZ 0b10#2 0b001#3 src.code)).toNat
  cases v <;> cases src <;> decide

theorem adcM : Statement .adcM := by
  intro v _
  show 1 = (opLength v 0b10001110#8).toNat
  cases v <;> decide

theorem aci (d8 : Byte) : Statement (.aci d8) := by
  intro v _
  show 2 = (opLength v 0b11001110#8).toNat
  cases v <;> decide

theorem subR (src : Reg) : Statement (.subR src) := by
  intro v _
  show 1 = (opLength v (opXYZ 0b10#2 0b010#3 src.code)).toNat
  cases v <;> cases src <;> decide

theorem subM : Statement .subM := by
  intro v _
  show 1 = (opLength v 0b10010110#8).toNat
  cases v <;> decide

theorem sui (d8 : Byte) : Statement (.sui d8) := by
  intro v _
  show 2 = (opLength v 0b11010110#8).toNat
  cases v <;> decide

theorem sbbR (src : Reg) : Statement (.sbbR src) := by
  intro v _
  show 1 = (opLength v (opXYZ 0b10#2 0b011#3 src.code)).toNat
  cases v <;> cases src <;> decide

theorem sbbM : Statement .sbbM := by
  intro v _
  show 1 = (opLength v 0b10011110#8).toNat
  cases v <;> decide

theorem sbi (d8 : Byte) : Statement (.sbi d8) := by
  intro v _
  show 2 = (opLength v 0b11011110#8).toNat
  cases v <;> decide

theorem inrR (dst : Reg) : Statement (.inrR dst) := by
  intro v _
  show 1 = (opLength v (opXYZ 0b00#2 dst.code 0b100#3)).toNat
  cases v <;> cases dst <;> decide

theorem inrM : Statement .inrM := by
  intro v _
  show 1 = (opLength v 0b00110100#8).toNat
  cases v <;> decide

theorem dcrR (dst : Reg) : Statement (.dcrR dst) := by
  intro v _
  show 1 = (opLength v (opXYZ 0b00#2 dst.code 0b101#3)).toNat
  cases v <;> cases dst <;> decide

theorem dcrM : Statement .dcrM := by
  intro v _
  show 1 = (opLength v 0b00110101#8).toNat
  cases v <;> decide

theorem inx (rp : Pair) : Statement (.inx rp) := by
  intro v _
  show 1 = (opLength v (opPair 0b00#2 rp.code 0b0011#4)).toNat
  cases v <;> cases rp <;> decide

theorem dcx (rp : Pair) : Statement (.dcx rp) := by
  intro v _
  show 1 = (opLength v (opPair 0b00#2 rp.code 0b1011#4)).toNat
  cases v <;> cases rp <;> decide

theorem dad (rp : Pair) : Statement (.dad rp) := by
  intro v _
  show 1 = (opLength v (opPair 0b00#2 rp.code 0b1001#4)).toNat
  cases v <;> cases rp <;> decide

theorem daa : Statement .daa := by
  intro v _
  show 1 = (opLength v 0b00100111#8).toNat
  cases v <;> decide

theorem anaR (src : Reg) : Statement (.anaR src) := by
  intro v _
  show 1 = (opLength v (opXYZ 0b10#2 0b100#3 src.code)).toNat
  cases v <;> cases src <;> decide

theorem anaM : Statement .anaM := by
  intro v _
  show 1 = (opLength v 0b10100110#8).toNat
  cases v <;> decide

theorem ani (d8 : Byte) : Statement (.ani d8) := by
  intro v _
  show 2 = (opLength v 0b11100110#8).toNat
  cases v <;> decide

theorem xraR (src : Reg) : Statement (.xraR src) := by
  intro v _
  show 1 = (opLength v (opXYZ 0b10#2 0b101#3 src.code)).toNat
  cases v <;> cases src <;> decide

theorem xraM : Statement .xraM := by
  intro v _
  show 1 = (opLength v 0b10101110#8).toNat
  cases v <;> decide

theorem xri (d8 : Byte) : Statement (.xri d8) := by
  intro v _
  show 2 = (opLength v 0b11101110#8).toNat
  cases v <;> decide

theorem oraR (src : Reg) : Statement (.oraR src) := by
  intro v _
  show 1 = (opLength v (opXYZ 0b10#2 0b110#3 src.code)).toNat
  cases v <;> cases src <;> decide

theorem oraM : Statement .oraM := by
  intro v _
  show 1 = (opLength v 0b10110110#8).toNat
  cases v <;> decide

theorem ori (d8 : Byte) : Statement (.ori d8) := by
  intro v _
  show 2 = (opLength v 0b11110110#8).toNat
  cases v <;> decide

theorem cmpR (src : Reg) : Statement (.cmpR src) := by
  intro v _
  show 1 = (opLength v (opXYZ 0b10#2 0b111#3 src.code)).toNat
  cases v <;> cases src <;> decide

theorem cmpM : Statement .cmpM := by
  intro v _
  show 1 = (opLength v 0b10111110#8).toNat
  cases v <;> decide

theorem cpi (d8 : Byte) : Statement (.cpi d8) := by
  intro v _
  show 2 = (opLength v 0b11111110#8).toNat
  cases v <;> decide

theorem rlc : Statement .rlc := by
  intro v _
  show 1 = (opLength v 0b00000111#8).toNat
  cases v <;> decide

theorem rrc : Statement .rrc := by
  intro v _
  show 1 = (opLength v 0b00001111#8).toNat
  cases v <;> decide

theorem ral : Statement .ral := by
  intro v _
  show 1 = (opLength v 0b00010111#8).toNat
  cases v <;> decide

theorem rar : Statement .rar := by
  intro v _
  show 1 = (opLength v 0b00011111#8).toNat
  cases v <;> decide

theorem cma : Statement .cma := by
  intro v _
  show 1 = (opLength v 0b00101111#8).toNat
  cases v <;> decide

theorem cmc : Statement .cmc := by
  intro v _
  show 1 = (opLength v 0b00111111#8).toNat
  cases v <;> decide

theorem stc : Statement .stc := by
  intro v _
  show 1 = (opLength v 0b00110111#8).toNat
  cases v <;> decide

theorem jmp (a16 : Word) : Statement (.jmp a16) := by
  intro v _
  show 3 = (opLength v 0b11000011#8).toNat
  cases v <;> decide

theorem jnz (a16 : Word) : Statement (.jnz a16) := by
  intro v _
  show 3 = (opLength v (opXYZ 0b11#2 Cond.nz.code 0b010#3)).toNat
  cases v <;> decide

theorem jz (a16 : Word) : Statement (.jz a16) := by
  intro v _
  show 3 = (opLength v (opXYZ 0b11#2 Cond.z.code 0b010#3)).toNat
  cases v <;> decide

theorem jnc (a16 : Word) : Statement (.jnc a16) := by
  intro v _
  show 3 = (opLength v (opXYZ 0b11#2 Cond.nc.code 0b010#3)).toNat
  cases v <;> decide

theorem jc (a16 : Word) : Statement (.jc a16) := by
  intro v _
  show 3 = (opLength v (opXYZ 0b11#2 Cond.c.code 0b010#3)).toNat
  cases v <;> decide

theorem jpo (a16 : Word) : Statement (.jpo a16) := by
  intro v _
  show 3 = (opLength v (opXYZ 0b11#2 Cond.po.code 0b010#3)).toNat
  cases v <;> decide

theorem jpe (a16 : Word) : Statement (.jpe a16) := by
  intro v _
  show 3 = (opLength v (opXYZ 0b11#2 Cond.pe.code 0b010#3)).toNat
  cases v <;> decide

theorem jp (a16 : Word) : Statement (.jp a16) := by
  intro v _
  show 3 = (opLength v (opXYZ 0b11#2 Cond.p.code 0b010#3)).toNat
  cases v <;> decide

theorem jm (a16 : Word) : Statement (.jm a16) := by
  intro v _
  show 3 = (opLength v (opXYZ 0b11#2 Cond.m.code 0b010#3)).toNat
  cases v <;> decide

theorem call (a16 : Word) : Statement (.call a16) := by
  intro v _
  show 3 = (opLength v 0b11001101#8).toNat
  cases v <;> decide

theorem cnz (a16 : Word) : Statement (.cnz a16) := by
  intro v _
  show 3 = (opLength v (opXYZ 0b11#2 Cond.nz.code 0b100#3)).toNat
  cases v <;> decide

theorem cz (a16 : Word) : Statement (.cz a16) := by
  intro v _
  show 3 = (opLength v (opXYZ 0b11#2 Cond.z.code 0b100#3)).toNat
  cases v <;> decide

theorem cnc (a16 : Word) : Statement (.cnc a16) := by
  intro v _
  show 3 = (opLength v (opXYZ 0b11#2 Cond.nc.code 0b100#3)).toNat
  cases v <;> decide

theorem cc (a16 : Word) : Statement (.cc a16) := by
  intro v _
  show 3 = (opLength v (opXYZ 0b11#2 Cond.c.code 0b100#3)).toNat
  cases v <;> decide

theorem cpo (a16 : Word) : Statement (.cpo a16) := by
  intro v _
  show 3 = (opLength v (opXYZ 0b11#2 Cond.po.code 0b100#3)).toNat
  cases v <;> decide

theorem cpe (a16 : Word) : Statement (.cpe a16) := by
  intro v _
  show 3 = (opLength v (opXYZ 0b11#2 Cond.pe.code 0b100#3)).toNat
  cases v <;> decide

theorem cp (a16 : Word) : Statement (.cp a16) := by
  intro v _
  show 3 = (opLength v (opXYZ 0b11#2 Cond.p.code 0b100#3)).toNat
  cases v <;> decide

theorem cm (a16 : Word) : Statement (.cm a16) := by
  intro v _
  show 3 = (opLength v (opXYZ 0b11#2 Cond.m.code 0b100#3)).toNat
  cases v <;> decide

theorem ret : Statement .ret := by
  intro v _
  show 1 = (opLength v 0b11001001#8).toNat
  cases v <;> decide

theorem rnz : Statement .rnz := by
  intro v _
  show 1 = (opLength v (opXYZ 0b11#2 Cond.nz.code 0b000#3)).toNat
  cases v <;> decide

theorem rz : Statement .rz := by
  intro v _
  show 1 = (opLength v (opXYZ 0b11#2 Cond.z.code 0b000#3)).toNat
  cases v <;> decide

theorem rnc : Statement .rnc := by
  intro v _
  show 1 = (opLength v (opXYZ 0b11#2 Cond.nc.code 0b000#3)).toNat
  cases v <;> decide

theorem rc : Statement .rc := by
  intro v _
  show 1 = (opLength v (opXYZ 0b11#2 Cond.c.code 0b000#3)).toNat
  cases v <;> decide

theorem rpo : Statement .rpo := by
  intro v _
  show 1 = (opLength v (opXYZ 0b11#2 Cond.po.code 0b000#3)).toNat
  cases v <;> decide

theorem rpe : Statement .rpe := by
  intro v _
  show 1 = (opLength v (opXYZ 0b11#2 Cond.pe.code 0b000#3)).toNat
  cases v <;> decide

theorem rp : Statement .rp := by
  intro v _
  show 1 = (opLength v (opXYZ 0b11#2 Cond.p.code 0b000#3)).toNat
  cases v <;> decide

theorem rm : Statement .rm := by
  intro v _
  show 1 = (opLength v (opXYZ 0b11#2 Cond.m.code 0b000#3)).toNat
  cases v <;> decide

theorem rst (n : BitVec 3) : Statement (.rst n) := by
  intro v _
  show 1 = (opLength v (opXYZ 0b11#2 n 0b111#3)).toNat
  cases v <;> (revert n; decide)

theorem pchl : Statement .pchl := by
  intro v _
  show 1 = (opLength v 0b11101001#8).toNat
  cases v <;> decide

theorem push (rp : StackPair) : Statement (.push rp) := by
  intro v _
  show 1 = (opLength v (opPair 0b11#2 rp.code 0b0101#4)).toNat
  cases v <;> cases rp <;> decide

theorem pushPsw : Statement .pushPsw := by
  intro v _
  show 1 = (opLength v 0b11110101#8).toNat
  cases v <;> decide

theorem pop (rp : StackPair) : Statement (.pop rp) := by
  intro v _
  show 1 = (opLength v (opPair 0b11#2 rp.code 0b0001#4)).toNat
  cases v <;> cases rp <;> decide

theorem popPsw : Statement .popPsw := by
  intro v _
  show 1 = (opLength v 0b11110001#8).toNat
  cases v <;> decide

theorem xthl : Statement .xthl := by
  intro v _
  show 1 = (opLength v 0b11100011#8).toNat
  cases v <;> decide

theorem sphl : Statement .sphl := by
  intro v _
  show 1 = (opLength v 0b11111001#8).toNat
  cases v <;> decide

theorem inPort (p8 : Byte) : Statement (.inPort p8) := by
  intro v _
  show 2 = (opLength v 0b11011011#8).toNat
  cases v <;> decide

theorem outPort (p8 : Byte) : Statement (.outPort p8) := by
  intro v _
  show 2 = (opLength v 0b11010011#8).toNat
  cases v <;> decide

theorem ei : Statement .ei := by
  intro v _
  show 1 = (opLength v 0b11111011#8).toNat
  cases v <;> decide

theorem di : Statement .di := by
  intro v _
  show 1 = (opLength v 0b11110011#8).toNat
  cases v <;> decide

theorem hlt : Statement .hlt := by
  intro v _
  show 1 = (opLength v 0b01110110#8).toNat
  cases v <;> decide

theorem nop : Statement .nop := by
  intro v _
  show 1 = (opLength v 0b00000000#8).toNat
  cases v <;> decide

theorem rim : Statement .rim := by
  intro v h
  show 1 = (opLength v 0b00100000#8).toNat
  cases v <;> first | exact absurd (show false = true from h) Bool.false_ne_true | decide

theorem sim : Statement .sim := by
  intro v h
  show 1 = (opLength v 0b00110000#8).toNat
  cases v <;> first | exact absurd (show false = true from h) Bool.false_ne_true | decide

theorem nopAlias (ccc : BitVec 3) : Statement (.nopAlias ccc) := by
  intro v
  cases v <;> (revert ccc; decide)

theorem jmpAlias (a16 : Word) : Statement (.jmpAlias a16) := by
  intro v h
  show 3 = (opLength v 0b11001011#8).toNat
  cases v <;> first | exact absurd (show false = true from h) Bool.false_ne_true | decide

theorem retAlias : Statement .retAlias := by
  intro v h
  show 1 = (opLength v 0b11011001#8).toNat
  cases v <;> first | exact absurd (show false = true from h) Bool.false_ne_true | decide

theorem callAlias (dd : BitVec 2) (a16 : Word) : Statement (.callAlias dd a16) := by
  intro v h
  have key : ∀ (w : Variant) (dd : BitVec 2), (w.is8080 && callAliasField dd) = true →
      3 = (opLength w (opPair 0b11#2 dd 0b1101#4)).toNat := by
    intro w
    cases w <;> decide
  exact key v dd h

theorem dsub : Statement .dsub := by
  intro v h
  show 1 = (opLength v 0b00001000#8).toNat
  cases v <;> first | exact absurd (show false = true from h) Bool.false_ne_true | decide

theorem arhl : Statement .arhl := by
  intro v h
  show 1 = (opLength v 0b00010000#8).toNat
  cases v <;> first | exact absurd (show false = true from h) Bool.false_ne_true | decide

theorem rdel : Statement .rdel := by
  intro v h
  show 1 = (opLength v 0b00011000#8).toNat
  cases v <;> first | exact absurd (show false = true from h) Bool.false_ne_true | decide

theorem ldhi (d8 : Byte) : Statement (.ldhi d8) := by
  intro v h
  show 2 = (opLength v 0b00101000#8).toNat
  cases v <;> first | exact absurd (show false = true from h) Bool.false_ne_true | decide

theorem ldsi (d8 : Byte) : Statement (.ldsi d8) := by
  intro v h
  show 2 = (opLength v 0b00111000#8).toNat
  cases v <;> first | exact absurd (show false = true from h) Bool.false_ne_true | decide

theorem rstv : Statement .rstv := by
  intro v h
  show 1 = (opLength v 0b11001011#8).toNat
  cases v <;> first | exact absurd (show false = true from h) Bool.false_ne_true | decide

theorem shlx : Statement .shlx := by
  intro v h
  show 1 = (opLength v 0b11011001#8).toNat
  cases v <;> first | exact absurd (show false = true from h) Bool.false_ne_true | decide

theorem jnk (a16 : Word) : Statement (.jnk a16) := by
  intro v h
  show 3 = (opLength v 0b11011101#8).toNat
  cases v <;> first | exact absurd (show false = true from h) Bool.false_ne_true | decide

theorem lhlx : Statement .lhlx := by
  intro v h
  show 1 = (opLength v 0b11101101#8).toNat
  cases v <;> first | exact absurd (show false = true from h) Bool.false_ne_true | decide

theorem jk (a16 : Word) : Statement (.jk a16) := by
  intro v h
  show 3 = (opLength v 0b11111101#8).toNat
  cases v <;> first | exact absurd (show false = true from h) Bool.false_ne_true | decide

end Sys2Proof.Laws.EncodedLength
end

