-- ==== Sys2Proof/Tests/Slice0.lean ====
section
/-!
SUPPORT. The model's own tests: well-formedness, decoding, one step of each instruction, the
interrupts, and a witness for the hypotheses of each statement. The expected results are the
vectors of 95_test_vectors.md (V<n>, L1.<n>) and the examples of the rules (R<n>). On the I8085A a
test looks at no flag, since bits 5, 3, 1 of F are free values.
-/

namespace Sys2Proof.Tests

open Sys2Proof Sys2Proof.Machine Sys2Proof.Claims

/-- The decoder reads exactly this instruction from exactly these bytes. -/
def reads (v : Variant) (bs : List Byte) (i : Instr) : Bool :=
  match decode v bs with
  | .ok (j, []) => decide (j = i)
  | .ok (_, _ :: _) => false
  | .error _ => false

/-- Memory with the bytes at x, x + 1, … added. -/
def load (x : Nat) : List Byte → Memory → Memory
  | [], m => m
  | v :: l, m => load (x + 1) l (m.write x v)

/-- Memory with the cells added. -/
def cells : List Host.Cell → Memory → Memory
  | [], m => m
  | (x, v) :: l, m => cells l (m.write x v)

/-- The start state of the vectors: code at 0x0100, SP 0x2400, every other register 0. -/
def start (v : Variant) (code : List Byte) (m : List Host.Cell) : State :=
  { State.reset with
    cfg := Config.ofVariant v
    f := if v.is8080 then 0x02 else 0x00
    pc := 0x0100
    sp := 0x2400
    mem := load 0x0100 code (cells m []) }

/-- A result is a next state of which p holds. -/
def isNext (r : Result) (p : State → Bool) : Bool :=
  match r with
  | .next t => p t
  | .fault _ => false
  | .refused _ => false

/-- A result is this refusal. -/
def isRefused (r : Result) (q : Refusal) : Bool :=
  match r with
  | .next _ => false
  | .fault _ => false
  | .refused q' => decide (q' = q)

/-- One step, and what holds after it. -/
def after (s : State) (p : State → Bool) : Bool := isNext (step s) p

theorem exists_of_isNext {r : Result} {p : State → Bool} (h : isNext r p = true) :
    ∃ t, r = .next t ∧ p t = true := by
  cases r with
  | next t => exact ⟨t, rfl, h⟩
  | fault r => cases h
  | refused r => cases h

theorem refused_of_isRefused {r : Result} {q : Refusal} (h : isRefused r q = true) :
    r = .refused q := by
  cases r with
  | next t => cases h
  | fault r => cases h
  | refused q' => rw [of_decide_eq_true h]

/-! ### Well-formedness -/

/-- `nopAliasField` refuses the field bits of NOP itself (R400). -/
theorem test_wf_nopAlias : (Instr.nopAlias 0b000).wf .i8080 = false := by decide
/-- `callAliasField` refuses the field bits of CALL itself (R403). -/
theorem test_wf_callAlias : (Instr.callAlias 0b00 0x3000).wf .i8080 = false := by decide
/-- An alias is no instruction of the I8085A (R130). -/
theorem test_wf_alias_on_8085 : (Instr.retAlias).wf .i8085a = false := by decide
/-- RIM is no instruction of the 8080 variants (R130). -/
theorem test_wf_rim_on_8080 : (Instr.rim).wf .i8080a = false := by decide
/-- DSUB is no instruction of the 8080 variants (R130). -/
theorem test_wf_dsub_on_8080 : (Instr.dsub).wf .i8080 = false := by decide
theorem test_wf_accepts :
    (Instr.nopAlias 0b001).wf .i8080 = true ∧ (Instr.callAlias 0b11 0x3000).wf .i8080a = true ∧
    (Instr.rim).wf .i8085a = true ∧ (Instr.daa).wf .i8080 = true := by decide

/-! ### Decoding: one word of every constructor, written out from its encoding -/

theorem test_decode_data_transfer :
    [([0b01111000], Instr.movRR .a .b),
     ([0b01001110], Instr.movRM .c),
     ([0b01110100], Instr.movMR .h),
     ([0b00101110, 0x55], Instr.mviR .l 0x55),
     ([0b00110110, 0x99], Instr.mviM 0x99),
     ([0b00110001, 0x34, 0x12], Instr.lxi .sp 0x1234),
     ([0b00111010, 0x34, 0x12], Instr.lda 0x1234),
     ([0b00110010, 0x34, 0x12], Instr.sta 0x1234),
     ([0b00101010, 0x34, 0x12], Instr.lhld 0x1234),
     ([0b00100010, 0x34, 0x12], Instr.shld 0x1234),
     ([0b00001010], Instr.ldax .bc),
     ([0b00010010], Instr.stax .de),
     ([0b11101011], Instr.xchg)].all (fun p => reads .i8080 p.1 p.2) = true := by
  decide

theorem test_decode_arithmetic :
    [([0b10000010], Instr.addR .d),
     ([0b10000110], Instr.addM),
     ([0b11000110, 0x42], Instr.adi 0x42),
     ([0b10001001], Instr.adcR .c),
     ([0b10001110], Instr.adcM),
     ([0b11001110, 0xBE], Instr.aci 0xBE),
     ([0b10010111], Instr.subR .a),
     ([0b10010110], Instr.subM),
     ([0b11010110, 0x01], Instr.sui 0x01),
     ([0b10011101], Instr.sbbR .l),
     ([0b10011110], Instr.sbbM),
     ([0b11011110, 0x01], Instr.sbi 0x01),
     ([0b00001100], Instr.inrR .c),
     ([0b00110100], Instr.inrM),
     ([0b00000101], Instr.dcrR .b),
     ([0b00110101], Instr.dcrM),
     ([0b00010011], Instr.inx .de),
     ([0b00101011], Instr.dcx .hl),
     ([0b00001001], Instr.dad .bc),
     ([0b00100111], Instr.daa)].all (fun p => reads .i8080 p.1 p.2) = true := by
  decide

theorem test_decode_logical :
    [([0b10100001], Instr.anaR .c),
     ([0b10100110], Instr.anaM),
     ([0b11100110, 0x0F], Instr.ani 0x0F),
     ([0b10101111], Instr.xraR .a),
     ([0b10101110], Instr.xraM),
     ([0b11101110, 0x81], Instr.xri 0x81),
     ([0b10110001], Instr.oraR .c),
     ([0b10110110], Instr.oraM),
     ([0b11110110, 0x0F], Instr.ori 0x0F),
     ([0b10111011], Instr.cmpR .e),
     ([0b10111110], Instr.cmpM),
     ([0b11111110, 0x40], Instr.cpi 0x40),
     ([0b00000111], Instr.rlc),
     ([0b00001111], Instr.rrc),
     ([0b00010111], Instr.ral),
     ([0b00011111], Instr.rar),
     ([0b00101111], Instr.cma),
     ([0b00111111], Instr.cmc),
     ([0b00110111], Instr.stc)].all (fun p => reads .i8080 p.1 p.2) = true := by
  decide

theorem test_decode_jumps :
    [([0b11000011, 0x00, 0x20], Instr.jmp 0x2000),
     ([0b11000010, 0x00, 0x20], Instr.jnz 0x2000),
     ([0b11001010, 0x00, 0x20], Instr.jz 0x2000),
     ([0b11010010, 0x00, 0x20], Instr.jnc 0x2000),
     ([0b11011010, 0x00, 0x20], Instr.jc 0x2000),
     ([0b11100010, 0x00, 0x20], Instr.jpo 0x2000),
     ([0b11101010, 0x00, 0x20], Instr.jpe 0x2000),
     ([0b11110010, 0x00, 0x20], Instr.jp 0x2000),
     ([0b11111010, 0x00, 0x20], Instr.jm 0x2000),
     ([0b11101001], Instr.pchl)].all (fun p => reads .i8080 p.1 p.2) = true := by
  decide

theorem test_decode_calls :
    [([0b11001101, 0x00, 0x30], Instr.call 0x3000),
     ([0b11000100, 0x00, 0x30], Instr.cnz 0x3000),
     ([0b11001100, 0x00, 0x30], Instr.cz 0x3000),
     ([0b11010100, 0x00, 0x30], Instr.cnc 0x3000),
     ([0b11011100, 0x00, 0x30], Instr.cc 0x3000),
     ([0b11100100, 0x00, 0x30], Instr.cpo 0x3000),
     ([0b11101100, 0x00, 0x30], Instr.cpe 0x3000),
     ([0b11110100, 0x00, 0x30], Instr.cp 0x3000),
     ([0b11111100, 0x00, 0x30], Instr.cm 0x3000),
     ([0b11101111], Instr.rst 5)].all (fun p => reads .i8080 p.1 p.2) = true := by
  decide

theorem test_decode_returns :
    [([0b11001001], Instr.ret),
     ([0b11000000], Instr.rnz),
     ([0b11001000], Instr.rz),
     ([0b11010000], Instr.rnc),
     ([0b11011000], Instr.rc),
     ([0b11100000], Instr.rpo),
     ([0b11101000], Instr.rpe),
     ([0b11110000], Instr.rp),
     ([0b11111000], Instr.rm)].all (fun p => reads .i8080 p.1 p.2) = true := by
  decide

theorem test_decode_stack_io_control :
    [([0b11000101], Instr.push .bc),
     ([0b11110101], Instr.pushPsw),
     ([0b11100001], Instr.pop .hl),
     ([0b11110001], Instr.popPsw),
     ([0b11100011], Instr.xthl),
     ([0b11111001], Instr.sphl),
     ([0b11011011, 0x10], Instr.inPort 0x10),
     ([0b11010011, 0x20], Instr.outPort 0x20),
     ([0b11111011], Instr.ei),
     ([0b11110011], Instr.di),
     ([0b01110110], Instr.hlt),
     ([0b00000000], Instr.nop)].all (fun p => reads .i8080 p.1 p.2) = true := by
  decide

theorem test_decode_aliases_8080 :
    [([0b00101000], Instr.nopAlias 0b101),
     ([0b11001011, 0x00, 0x30], Instr.jmpAlias 0x3000),
     ([0b11011001], Instr.retAlias),
     ([0b11101101, 0x00, 0x30], Instr.callAlias 0b10 0x3000)].all (fun p => reads .i8080a p.1 p.2) = true := by
  decide

theorem test_decode_8085 :
    [([0b00100000], Instr.rim),
     ([0b00110000], Instr.sim),
     ([0b00001000], Instr.dsub),
     ([0b00010000], Instr.arhl),
     ([0b00011000], Instr.rdel),
     ([0b00101000, 0x10], Instr.ldhi 0x10),
     ([0b00111000, 0x04], Instr.ldsi 0x04),
     ([0b11001011], Instr.rstv),
     ([0b11011001], Instr.shlx),
     ([0b11011101, 0x00, 0x40], Instr.jnk 0x4000),
     ([0b11101101], Instr.lhlx),
     ([0b11111101, 0x00, 0x40], Instr.jk 0x4000)].all (fun p => reads .i8085a p.1 p.2) = true := by
  decide

/-- Every opcode of the I8080 re-encodes to its bytes. -/
theorem test_every_opcode_8080 : ∀ op : BitVec 8,
    encode (decodeOp .i8080 op 0x34 0x12) = [op, 0x34, 0x12].take (opLength .i8080 op).toNat := by
  decide
/-- Every opcode of the I8085A re-encodes to its bytes. -/
theorem test_every_opcode_8085 : ∀ op : BitVec 8,
    encode (decodeOp .i8085a op 0x34 0x12) = [op, 0x34, 0x12].take (opLength .i8085a op).toNat := by
  decide

/-! ### The fixed names of the package -/

/-- A word shorter than its instruction has zero operand bytes. -/
theorem test_decodeTableWord :
    decodeTableWord 8 0xC3 = some (.jmp 0x0000) ∧
    decodeTableWord 24 0x1234C3 = some (.jmp 0x1234) ∧
    decodeTableWord 8 0x12347E = some (.movRM .a) := by decide
/-- From reset the very next step runs the placed instruction. -/
theorem test_withFetchWord :
    after (State.reset.withFetchWord 16 0x423E) (fun t => t.a == 0x42 && t.pc == 0x0002) = true := by
  decide
/-- A halted state with a TRAP latched runs the placed instruction first. -/
theorem test_withFetchWord_pending :
    after (State.withFetchWord { State.reset with halt := true, trapLatch := true } 16 0x423E)
      (fun t => t.a == 0x42 && t.trapLatch) = true := by decide

/-! ### One step of each instruction -/

/-- V1 -/
theorem test_mov_r_r :
    after { start .i8080 [0x78] [] with b := 0x12 }
      (fun t => t.a == 0x12 && t.pc == 0x0101) = true := by
  decide

/-- V4 -/
theorem test_mov_r_m :
    after { start .i8080 [0x66] [(0x2000, 0x99)] with h := 0x20 }
      (fun t => t.h == 0x99 && t.l == 0x00) = true := by
  decide

/-- V5 -/
theorem test_mov_m_r :
    after { start .i8080 [0x74] [] with h := 0x20 }
      (fun t => t.mem.read 0x2000 == 0x20) = true := by
  decide

/-- V6 -/
theorem test_mvi_r :
    after (start .i8080 [0x3E, 0x42] [])
      (fun t => t.a == 0x42 && t.pc == 0x0102) = true := by
  decide

/-- V7 -/
theorem test_mvi_m :
    after { start .i8080 [0x36, 0x99] [] with h := 0x30 }
      (fun t => t.mem.read 0x3000 == 0x99) = true := by
  decide

/-- V9 -/
theorem test_lxi :
    after (start .i8080 [0x01, 0x34, 0x12] [])
      (fun t => t.b == 0x12 && t.c == 0x34 && t.pc == 0x0103) = true := by
  decide

/-- V11 -/
theorem test_lda :
    after (start .i8080 [0x3A, 0x50, 0x20] [(0x2050, 0xC3)])
      (fun t => t.a == 0xC3) = true := by
  decide

/-- V12 -/
theorem test_sta :
    after { start .i8080 [0x32, 0x00, 0x21] [] with a := 0x5E }
      (fun t => t.mem.read 0x2100 == 0x5E) = true := by
  decide

/-- V14 -/
theorem test_lhld :
    after (start .i8080 [0x2A, 0xFF, 0xFF] [(0x0000, 0x12), (0xFFFF, 0x34)])
      (fun t => t.hl == 0x1234) = true := by
  decide

/-- V15 -/
theorem test_shld :
    after { start .i8080 [0x22, 0x00, 0x20] [] with h := 0xAB, l := 0xCD }
      (fun t => t.mem.read 0x2000 == 0xCD && t.mem.read 0x2001 == 0xAB) = true := by
  decide

/-- V16 -/
theorem test_ldax :
    after { start .i8080 [0x1A] [(0x4000, 0x0F)] with d := 0x40 }
      (fun t => t.a == 0x0F) = true := by
  decide

/-- V17 -/
theorem test_stax :
    after { start .i8080 [0x02] [] with b := 0x40, c := 0x01, a := 0x80 }
      (fun t => t.mem.read 0x4001 == 0x80) = true := by
  decide

/-- V18 -/
theorem test_xchg :
    after { start .i8080 [0xEB] [] with h := 0x11, l := 0x11, d := 0x22, e := 0x22 }
      (fun t => t.hl == 0x2222 && t.de == 0x1111) = true := by
  decide

/-- R205 -/
theorem test_add_r :
    after { start .i8080 [0x82] [] with a := 0x6C, d := 0x2E }
      (fun t => t.a == 0x9A && t.f == 0x96) = true := by
  decide

/-- R206 -/
theorem test_add_m :
    after { start .i8080 [0x86] [(0x2000, 0x01)] with a := 0xFF, h := 0x20 }
      (fun t => t.a == 0x00 && t.f == 0x57) = true := by
  decide

/-- R207 -/
theorem test_adi :
    after { start .i8080 [0xC6, 0x42] [] with a := 0x14 }
      (fun t => t.a == 0x56 && t.f == 0x06) = true := by
  decide

/-- R208 -/
theorem test_adc_r :
    after { start .i8080 [0x89] [] with a := 0x42, c := 0x3D, f := 0x03 }
      (fun t => t.a == 0x80 && t.f == 0x92) = true := by
  decide

/-- R209 -/
theorem test_adc_m :
    after { start .i8080 [0x8E] [] with a := 0xFF, h := 0x20, f := 0x03 }
      (fun t => t.a == 0x00 && t.f == 0x57) = true := by
  decide

/-- R210 -/
theorem test_aci :
    after { start .i8080 [0xCE, 0xBE] [] with a := 0x56 }
      (fun t => t.a == 0x14 && t.f == 0x17) = true := by
  decide

/-- V27 -/
theorem test_sub_r :
    after { start .i8080 [0x97] [] with a := 0x3E }
      (fun t => t.a == 0x00 && t.f == 0x56) = true := by
  decide

/-- R212 -/
theorem test_sub_m :
    after { start .i8080 [0x96] [(0x2000, 0x01)] with a := 0x10, h := 0x20 }
      (fun t => t.a == 0x0F && t.f == 0x06) = true := by
  decide

/-- R213 -/
theorem test_sui :
    after (start .i8080 [0xD6, 0x01] [])
      (fun t => t.a == 0xFF && t.f == 0x87) = true := by
  decide

/-- V31 -/
theorem test_sbb_r :
    after { start .i8080 [0x98] [] with b := 0xFF, f := 0x03 }
      (fun t => t.a == 0x00 && t.f == 0x47) = true := by
  decide

/-- R215 -/
theorem test_sbb_m :
    after { start .i8080 [0x9E] [] with h := 0x20, f := 0x03 }
      (fun t => t.a == 0xFF && t.f == 0x87) = true := by
  decide

/-- R216 -/
theorem test_sbi :
    after { start .i8080 [0xDE, 0x01] [] with a := 0x80 }
      (fun t => t.a == 0x7F && t.f == 0x02) = true := by
  decide

/-- V34 -/
theorem test_inr_r :
    after { start .i8080 [0x3C] [] with a := 0xFF, f := 0x03 }
      (fun t => t.a == 0x00 && t.f == 0x57) = true := by
  decide

/-- R218 -/
theorem test_inr_m :
    after { start .i8080 [0x34] [(0x2000, 0xFF)] with h := 0x20 }
      (fun t => t.mem.read 0x2000 == 0x00 && t.f == 0x56) = true := by
  decide

/-- V38 -/
theorem test_dcr_r :
    after { start .i8080 [0x3D] [] with a := 0x10 }
      (fun t => t.a == 0x0F && t.f == 0x06) = true := by
  decide

/-- V39 -/
theorem test_dcr_m :
    after { start .i8080 [0x35] [(0x2000, 0x01)] with h := 0x20 }
      (fun t => t.mem.read 0x2000 == 0x00 && t.f == 0x56) = true := by
  decide

/-- V41 -/
theorem test_inx :
    after { start .i8080 [0x03] [] with b := 0xFF, c := 0xFF }
      (fun t => t.bc == 0x0000 && t.f == 0x02) = true := by
  decide

/-- V43 -/
theorem test_dcx :
    after (start .i8080 [0x1B] [])
      (fun t => t.de == 0xFFFF && t.f == 0x02) = true := by
  decide

/-- V46 -/
theorem test_dad :
    after { start .i8080 [0x39] [] with l := 0x01, sp := 0xFFFF, f := 0x42 }
      (fun t => t.hl == 0x0000 && t.f == 0x43) = true := by
  decide

/-- V47 -/
theorem test_daa :
    after { start .i8080 [0x27] [] with a := 0x9B }
      (fun t => t.a == 0x01 && t.f == 0x13) = true := by
  decide

/-- V50 -/
theorem test_daa_half_carry :
    after { start .i8080 [0x27] [] with a := 0x11, f := 0x12 }
      (fun t => t.a == 0x17 && t.f == 0x06) = true := by
  decide

/-- V55 -/
theorem test_ana_r :
    after { start .i8080 [0xA0] [] with a := 0x30, b := 0x20 }
      (fun t => t.a == 0x20 && t.f == 0x02) = true := by
  decide

/-- R251, V53 -/
theorem test_ana_m :
    after { start .i8080 [0xA6] [(0x2000, 0xF0)] with a := 0x0F, h := 0x20, f := 0x03 }
      (fun t => t.a == 0x00 && t.f == 0x56) = true := by
  decide

/-- V56 -/
theorem test_ani :
    after { start .i8080 [0xE6, 0x0F] [] with a := 0x3A }
      (fun t => t.a == 0x0A && t.f == 0x16) = true := by
  decide

/-- V57 -/
theorem test_xra_r :
    after { start .i8080 [0xAF] [] with a := 0x5C, f := 0x13 }
      (fun t => t.a == 0x00 && t.f == 0x46) = true := by
  decide

/-- R254 -/
theorem test_xra_m :
    after { start .i8080 [0xAE] [(0x2000, 0x0F)] with a := 0xFF, h := 0x20 }
      (fun t => t.a == 0xF0 && t.f == 0x86) = true := by
  decide

/-- V58 -/
theorem test_xri :
    after { start .i8080 [0xEE, 0x81] [] with a := 0x3B }
      (fun t => t.a == 0xBA && t.f == 0x82) = true := by
  decide

/-- R256 -/
theorem test_ora_r :
    after { start .i8080 [0xB1] [] with a := 0x33, c := 0x0F }
      (fun t => t.a == 0x3F && t.f == 0x06) = true := by
  decide

/-- R257 -/
theorem test_ora_m :
    after { start .i8080 [0xB6] [] with h := 0x20, f := 0x13 }
      (fun t => t.a == 0x00 && t.f == 0x46) = true := by
  decide

/-- V60 -/
theorem test_ori :
    after { start .i8080 [0xF6, 0x0F] [] with a := 0xB5 }
      (fun t => t.a == 0xBF && t.f == 0x82) = true := by
  decide

/-- V62 -/
theorem test_cmp_r :
    after { start .i8080 [0xB8] [] with a := 0x02, b := 0x05 }
      (fun t => t.a == 0x02 && t.f == 0x83) = true := by
  decide

/-- R260 -/
theorem test_cmp_m :
    after { start .i8080 [0xBE] [(0x2000, 0x20)] with a := 0x20, h := 0x20 }
      (fun t => t.a == 0x20 && t.f == 0x56) = true := by
  decide

/-- V64 -/
theorem test_cpi :
    after { start .i8080 [0xFE, 0x40] [] with a := 0x4A }
      (fun t => t.a == 0x4A && t.f == 0x16) = true := by
  decide

/-- V65 -/
theorem test_rlc :
    after { start .i8080 [0x07] [] with a := 0xF2 }
      (fun t => t.a == 0xE5 && t.f == 0x03) = true := by
  decide

/-- V66 -/
theorem test_rrc :
    after { start .i8080 [0x0F] [] with a := 0xF2, f := 0x03 }
      (fun t => t.a == 0x79 && t.f == 0x02) = true := by
  decide

/-- V67 -/
theorem test_ral :
    after { start .i8080 [0x17] [] with a := 0xB5 }
      (fun t => t.a == 0x6A && t.f == 0x03) = true := by
  decide

/-- V68 -/
theorem test_rar :
    after { start .i8080 [0x1F] [] with a := 0x6A, f := 0x03 }
      (fun t => t.a == 0xB5 && t.f == 0x02) = true := by
  decide

/-- V70 -/
theorem test_cma :
    after { start .i8080 [0x2F] [] with a := 0x51 }
      (fun t => t.a == 0xAE && t.f == 0x02) = true := by
  decide

/-- V71 -/
theorem test_cmc :
    after { start .i8080 [0x3F] [] with f := 0x03 }
      (fun t => t.f == 0x02) = true := by
  decide

/-- V72 -/
theorem test_stc :
    after (start .i8080 [0x37] [])
      (fun t => t.f == 0x03) = true := by
  decide

/-- V73 -/
theorem test_jmp :
    after (start .i8080 [0xC3, 0x00, 0x01] [])
      (fun t => t.pc == 0x0100) = true := by
  decide

/-- R302 -/
theorem test_jnz :
    after { start .i8080 [0xC2, 0x00, 0x20] [] with f := 0x02 }
      (fun t => t.pc == 0x2000) = true := by
  decide

/-- R302 -/
theorem test_jnz_not_taken :
    after { start .i8080 [0xC2, 0x00, 0x20] [] with f := 0x42 }
      (fun t => t.pc == 0x0103) = true := by
  decide

/-- R303 -/
theorem test_jz :
    after { start .i8080 [0xCA, 0x00, 0x20] [] with f := 0x42 }
      (fun t => t.pc == 0x2000) = true := by
  decide

/-- R303 -/
theorem test_jz_not_taken :
    after { start .i8080 [0xCA, 0x00, 0x20] [] with f := 0x02 }
      (fun t => t.pc == 0x0103) = true := by
  decide

/-- R304 -/
theorem test_jnc :
    after { start .i8080 [0xD2, 0x00, 0x20] [] with f := 0x02 }
      (fun t => t.pc == 0x2000) = true := by
  decide

/-- R304 -/
theorem test_jnc_not_taken :
    after { start .i8080 [0xD2, 0x00, 0x20] [] with f := 0x03 }
      (fun t => t.pc == 0x0103) = true := by
  decide

/-- R305 -/
theorem test_jc :
    after { start .i8080 [0xDA, 0x00, 0x20] [] with f := 0x03 }
      (fun t => t.pc == 0x2000) = true := by
  decide

/-- R305 -/
theorem test_jc_not_taken :
    after { start .i8080 [0xDA, 0x00, 0x20] [] with f := 0x02 }
      (fun t => t.pc == 0x0103) = true := by
  decide

/-- R306 -/
theorem test_jpo :
    after { start .i8080 [0xE2, 0x00, 0x20] [] with f := 0x02 }
      (fun t => t.pc == 0x2000) = true := by
  decide

/-- R306 -/
theorem test_jpo_not_taken :
    after { start .i8080 [0xE2, 0x00, 0x20] [] with f := 0x06 }
      (fun t => t.pc == 0x0103) = true := by
  decide

/-- R307 -/
theorem test_jpe :
    after { start .i8080 [0xEA, 0x00, 0x20] [] with f := 0x06 }
      (fun t => t.pc == 0x2000) = true := by
  decide

/-- R307 -/
theorem test_jpe_not_taken :
    after { start .i8080 [0xEA, 0x00, 0x20] [] with f := 0x02 }
      (fun t => t.pc == 0x0103) = true := by
  decide

/-- R308 -/
theorem test_jp :
    after { start .i8080 [0xF2, 0x00, 0x20] [] with f := 0x02 }
      (fun t => t.pc == 0x2000) = true := by
  decide

/-- R308 -/
theorem test_jp_not_taken :
    after { start .i8080 [0xF2, 0x00, 0x20] [] with f := 0x82 }
      (fun t => t.pc == 0x0103) = true := by
  decide

/-- R309 -/
theorem test_jm :
    after { start .i8080 [0xFA, 0x00, 0x20] [] with f := 0x82 }
      (fun t => t.pc == 0x2000) = true := by
  decide

/-- R309 -/
theorem test_jm_not_taken :
    after { start .i8080 [0xFA, 0x00, 0x20] [] with f := 0x02 }
      (fun t => t.pc == 0x0103) = true := by
  decide

/-- V80 -/
theorem test_call :
    after { start .i8080 [0xCD, 0x00, 0x30] [] with sp := 0x0001 }
      (fun t => t.pc == 0x3000 && t.sp == 0xFFFF && t.mem.read 0x0000 == 0x01 && t.mem.read 0xFFFF == 0x03) = true := by
  decide

/-- R311 -/
theorem test_cnz :
    after { start .i8080 [0xC4, 0x00, 0x30] [] with f := 0x02 }
      (fun t => t.pc == 0x3000 && t.sp == 0x23FE && t.mem.read 0x23FF == 0x01 && t.mem.read 0x23FE == 0x03) = true := by
  decide

/-- R311 -/
theorem test_cnz_not_taken :
    after { start .i8080 [0xC4, 0x00, 0x30] [] with f := 0x42 }
      (fun t => t.pc == 0x0103 && t.sp == 0x2400) = true := by
  decide

/-- R312 -/
theorem test_cz :
    after { start .i8080 [0xCC, 0x00, 0x30] [] with f := 0x42 }
      (fun t => t.pc == 0x3000 && t.sp == 0x23FE && t.mem.read 0x23FF == 0x01 && t.mem.read 0x23FE == 0x03) = true := by
  decide

/-- R312 -/
theorem test_cz_not_taken :
    after { start .i8080 [0xCC, 0x00, 0x30] [] with f := 0x02 }
      (fun t => t.pc == 0x0103 && t.sp == 0x2400) = true := by
  decide

/-- R313 -/
theorem test_cnc :
    after { start .i8080 [0xD4, 0x00, 0x30] [] with f := 0x02 }
      (fun t => t.pc == 0x3000 && t.sp == 0x23FE && t.mem.read 0x23FF == 0x01 && t.mem.read 0x23FE == 0x03) = true := by
  decide

/-- R313 -/
theorem test_cnc_not_taken :
    after { start .i8080 [0xD4, 0x00, 0x30] [] with f := 0x03 }
      (fun t => t.pc == 0x0103 && t.sp == 0x2400) = true := by
  decide

/-- R314 -/
theorem test_cc :
    after { start .i8080 [0xDC, 0x00, 0x30] [] with f := 0x03 }
      (fun t => t.pc == 0x3000 && t.sp == 0x23FE && t.mem.read 0x23FF == 0x01 && t.mem.read 0x23FE == 0x03) = true := by
  decide

/-- R314 -/
theorem test_cc_not_taken :
    after { start .i8080 [0xDC, 0x00, 0x30] [] with f := 0x02 }
      (fun t => t.pc == 0x0103 && t.sp == 0x2400) = true := by
  decide

/-- R315 -/
theorem test_cpo :
    after { start .i8080 [0xE4, 0x00, 0x30] [] with f := 0x02 }
      (fun t => t.pc == 0x3000 && t.sp == 0x23FE && t.mem.read 0x23FF == 0x01 && t.mem.read 0x23FE == 0x03) = true := by
  decide

/-- R315 -/
theorem test_cpo_not_taken :
    after { start .i8080 [0xE4, 0x00, 0x30] [] with f := 0x06 }
      (fun t => t.pc == 0x0103 && t.sp == 0x2400) = true := by
  decide

/-- R316 -/
theorem test_cpe :
    after { start .i8080 [0xEC, 0x00, 0x30] [] with f := 0x06 }
      (fun t => t.pc == 0x3000 && t.sp == 0x23FE && t.mem.read 0x23FF == 0x01 && t.mem.read 0x23FE == 0x03) = true := by
  decide

/-- R316 -/
theorem test_cpe_not_taken :
    after { start .i8080 [0xEC, 0x00, 0x30] [] with f := 0x02 }
      (fun t => t.pc == 0x0103 && t.sp == 0x2400) = true := by
  decide

/-- R317 -/
theorem test_cp :
    after { start .i8080 [0xF4, 0x00, 0x30] [] with f := 0x02 }
      (fun t => t.pc == 0x3000 && t.sp == 0x23FE && t.mem.read 0x23FF == 0x01 && t.mem.read 0x23FE == 0x03) = true := by
  decide

/-- R317 -/
theorem test_cp_not_taken :
    after { start .i8080 [0xF4, 0x00, 0x30] [] with f := 0x82 }
      (fun t => t.pc == 0x0103 && t.sp == 0x2400) = true := by
  decide

/-- R318 -/
theorem test_cm :
    after { start .i8080 [0xFC, 0x00, 0x30] [] with f := 0x82 }
      (fun t => t.pc == 0x3000 && t.sp == 0x23FE && t.mem.read 0x23FF == 0x01 && t.mem.read 0x23FE == 0x03) = true := by
  decide

/-- R318 -/
theorem test_cm_not_taken :
    after { start .i8080 [0xFC, 0x00, 0x30] [] with f := 0x02 }
      (fun t => t.pc == 0x0103 && t.sp == 0x2400) = true := by
  decide

/-- V83 -/
theorem test_ret :
    after { start .i8080 [0xC9] [(0x23FE, 0x03), (0x23FF, 0x01)] with sp := 0x23FE }
      (fun t => t.pc == 0x0103 && t.sp == 0x2400) = true := by
  decide

/-- R320 -/
theorem test_rnz :
    after { start .i8080 [0xC0] [(0x23FE, 0x03), (0x23FF, 0x01)] with f := 0x02, sp := 0x23FE }
      (fun t => t.pc == 0x0103 && t.sp == 0x2400) = true := by
  decide

/-- R320 -/
theorem test_rnz_not_taken :
    after { start .i8080 [0xC0] [(0x23FE, 0x03), (0x23FF, 0x01)] with f := 0x42, sp := 0x23FE }
      (fun t => t.pc == 0x0101 && t.sp == 0x23FE) = true := by
  decide

/-- R321 -/
theorem test_rz :
    after { start .i8080 [0xC8] [(0x23FE, 0x03), (0x23FF, 0x01)] with f := 0x42, sp := 0x23FE }
      (fun t => t.pc == 0x0103 && t.sp == 0x2400) = true := by
  decide

/-- R321 -/
theorem test_rz_not_taken :
    after { start .i8080 [0xC8] [(0x23FE, 0x03), (0x23FF, 0x01)] with f := 0x02, sp := 0x23FE }
      (fun t => t.pc == 0x0101 && t.sp == 0x23FE) = true := by
  decide

/-- R322 -/
theorem test_rnc :
    after { start .i8080 [0xD0] [(0x23FE, 0x03), (0x23FF, 0x01)] with f := 0x02, sp := 0x23FE }
      (fun t => t.pc == 0x0103 && t.sp == 0x2400) = true := by
  decide

/-- R322 -/
theorem test_rnc_not_taken :
    after { start .i8080 [0xD0] [(0x23FE, 0x03), (0x23FF, 0x01)] with f := 0x03, sp := 0x23FE }
      (fun t => t.pc == 0x0101 && t.sp == 0x23FE) = true := by
  decide

/-- R323 -/
theorem test_rc :
    after { start .i8080 [0xD8] [(0x23FE, 0x03), (0x23FF, 0x01)] with f := 0x03, sp := 0x23FE }
      (fun t => t.pc == 0x0103 && t.sp == 0x2400) = true := by
  decide

/-- R323 -/
theorem test_rc_not_taken :
    after { start .i8080 [0xD8] [(0x23FE, 0x03), (0x23FF, 0x01)] with f := 0x02, sp := 0x23FE }
      (fun t => t.pc == 0x0101 && t.sp == 0x23FE) = true := by
  decide

/-- R324 -/
theorem test_rpo :
    after { start .i8080 [0xE0] [(0x23FE, 0x03), (0x23FF, 0x01)] with f := 0x02, sp := 0x23FE }
      (fun t => t.pc == 0x0103 && t.sp == 0x2400) = true := by
  decide

/-- R324 -/
theorem test_rpo_not_taken :
    after { start .i8080 [0xE0] [(0x23FE, 0x03), (0x23FF, 0x01)] with f := 0x06, sp := 0x23FE }
      (fun t => t.pc == 0x0101 && t.sp == 0x23FE) = true := by
  decide

/-- R325 -/
theorem test_rpe :
    after { start .i8080 [0xE8] [(0x23FE, 0x03), (0x23FF, 0x01)] with f := 0x06, sp := 0x23FE }
      (fun t => t.pc == 0x0103 && t.sp == 0x2400) = true := by
  decide

/-- R325 -/
theorem test_rpe_not_taken :
    after { start .i8080 [0xE8] [(0x23FE, 0x03), (0x23FF, 0x01)] with f := 0x02, sp := 0x23FE }
      (fun t => t.pc == 0x0101 && t.sp == 0x23FE) = true := by
  decide

/-- R326 -/
theorem test_rp :
    after { start .i8080 [0xF0] [(0x23FE, 0x03), (0x23FF, 0x01)] with f := 0x02, sp := 0x23FE }
      (fun t => t.pc == 0x0103 && t.sp == 0x2400) = true := by
  decide

/-- R326 -/
theorem test_rp_not_taken :
    after { start .i8080 [0xF0] [(0x23FE, 0x03), (0x23FF, 0x01)] with f := 0x82, sp := 0x23FE }
      (fun t => t.pc == 0x0101 && t.sp == 0x23FE) = true := by
  decide

/-- R327 -/
theorem test_rm :
    after { start .i8080 [0xF8] [(0x23FE, 0x03), (0x23FF, 0x01)] with f := 0x82, sp := 0x23FE }
      (fun t => t.pc == 0x0103 && t.sp == 0x2400) = true := by
  decide

/-- R327 -/
theorem test_rm_not_taken :
    after { start .i8080 [0xF8] [(0x23FE, 0x03), (0x23FF, 0x01)] with f := 0x02, sp := 0x23FE }
      (fun t => t.pc == 0x0101 && t.sp == 0x23FE) = true := by
  decide

/-- V86 -/
theorem test_rst :
    after (start .i8080 [0xFF] [])
      (fun t => t.pc == 0x0038 && t.sp == 0x23FE && t.mem.read 0x23FE == 0x01 && t.mem.read 0x23FF == 0x01) = true := by
  decide

/-- V88 -/
theorem test_pchl :
    after { start .i8080 [0xE9] [] with h := 0x41, l := 0x3E }
      (fun t => t.pc == 0x413E) = true := by
  decide

/-- V89 -/
theorem test_push :
    after { start .i8080 [0xC5] [] with b := 0x12, c := 0x34 }
      (fun t => t.sp == 0x23FE && t.mem.read 0x23FF == 0x12 && t.mem.read 0x23FE == 0x34) = true := by
  decide

/-- V90 -/
theorem test_push_psw :
    after { start .i8080 [0xF5] [] with a := 0x01, f := 0x57 }
      (fun t => t.mem.read 0x23FF == 0x01 && t.mem.read 0x23FE == 0x57) = true := by
  decide

/-- V92 -/
theorem test_pop :
    after { start .i8080 [0xE1] [(0x0000, 0x12), (0xFFFF, 0x34)] with sp := 0xFFFF }
      (fun t => t.hl == 0x1234 && t.sp == 0x0001) = true := by
  decide

/-- V93 -/
theorem test_pop_psw :
    after { start .i8080 [0xF1] [(0x23FE, 0xFF), (0x23FF, 0x80)] with sp := 0x23FE }
      (fun t => t.a == 0x80 && t.f == 0xD7 && t.sp == 0x2400) = true := by
  decide

/-- V96 -/
theorem test_xthl :
    after { start .i8080 [0xE3] [(0x10AD, 0xF0), (0x10AE, 0x0D)] with h := 0x0B, l := 0x3C, sp := 0x10AD }
      (fun t => t.hl == 0x0DF0 && t.sp == 0x10AD && t.mem.read 0x10AD == 0x3C && t.mem.read 0x10AE == 0x0B) = true := by
  decide

/-- V97 -/
theorem test_sphl :
    after { start .i8080 [0xF9] [] with h := 0x50, l := 0x6C }
      (fun t => t.sp == 0x506C) = true := by
  decide

/-- V98 -/
theorem test_in :
    after { start .i8080 [0xDB, 0x10] [] with ioIn := [(0x10, 0x5A)] }
      (fun t => t.a == 0x5A && t.pc == 0x0102) = true := by
  decide

/-- V99 -/
theorem test_out :
    after { start .i8080 [0xD3, 0x20] [] with a := 0x3C }
      (fun t => t.events.head? == some (.ioWrite 0x0020 0x3C)) = true := by
  decide

/-- V100 -/
theorem test_ei :
    after (start .i8080 [0xFB] [])
      (fun t => t.ie && t.eiDelay) = true := by
  decide

/-- V101 -/
theorem test_di :
    after { start .i8080 [0xF3] [] with ie := true }
      (fun t => !t.ie) = true := by
  decide

/-- V102 -/
theorem test_hlt :
    after (start .i8080 [0x76] [])
      (fun t => t.halt && t.pc == 0x0101) = true := by
  decide

/-- V104 -/
theorem test_nop :
    after { start .i8080 [0x00] [] with a := 0x5A }
      (fun t => t.pc == 0x0101 && t.a == 0x5A) = true := by
  decide

/-- V105 -/
theorem test_rim :
    after { start .i8085a [0x20] [] with ie := true, im := 0b110, p75 := true, sidIn := some true }
      (fun t => t.a == 0xCE) = true := by
  decide

/-- L1.7 step 9 -/
theorem test_rim_copy :
    after { start .i8085a [0x20] [] with trapCopyValid := true, trapImCopy := 0b1011, im := 0b111, sidIn := some false }
      (fun t => t.a == 0x0B && !t.trapCopyValid) = true := by
  decide

/-- V107 -/
theorem test_sim :
    after { start .i8085a [0x30] [] with a := 0xDD, im := 0b111, p75 := true }
      (fun t => t.im == 0b101 && !t.p75 && t.sod) = true := by
  decide

/-- V108 -/
theorem test_sim_no_mask_set :
    after { start .i8085a [0x30] [] with a := 0x07 }
      (fun t => t.im == 0b000 && !t.sod) = true := by
  decide

/-- V111 -/
theorem test_nop_alias :
    after (start .i8080 [0x38] [])
      (fun t => t.pc == 0x0101) = true := by
  decide

/-- V112 -/
theorem test_jmp_alias :
    after (start .i8080 [0xCB, 0x00, 0x30] [])
      (fun t => t.pc == 0x3000) = true := by
  decide

/-- V113 -/
theorem test_ret_alias :
    after { start .i8080 [0xD9] [(0x23FE, 0x03), (0x23FF, 0x01)] with sp := 0x23FE }
      (fun t => t.pc == 0x0103 && t.sp == 0x2400) = true := by
  decide

/-- V114 -/
theorem test_call_alias :
    after (start .i8080 [0xFD, 0x00, 0x30] [])
      (fun t => t.pc == 0x3000 && t.sp == 0x23FE && t.mem.read 0x23FE == 0x03) = true := by
  decide

/-- V117 -/
theorem test_dsub :
    after { start .i8085a [0x08] [] with c := 0x01 }
      (fun t => t.hl == 0xFFFF) = true := by
  decide

/-- V118 -/
theorem test_arhl :
    after { start .i8085a [0x10] [] with h := 0x80, l := 0x03 }
      (fun t => t.hl == 0xC001) = true := by
  decide

/-- R412 -/
theorem test_rdel :
    after { start .i8085a [0x18] [] with d := 0x80, e := 0x01, f := 0x01 }
      (fun t => t.de == 0x0003) = true := by
  decide

/-- V123 -/
theorem test_ldhi :
    after { start .i8085a [0x28, 0x01] [] with h := 0xFF, l := 0xFF }
      (fun t => t.de == 0x0000 && t.pc == 0x0102) = true := by
  decide

/-- V124 -/
theorem test_ldsi :
    after { start .i8085a [0x38, 0x04] [] with sp := 0x23F0 }
      (fun t => t.de == 0x23F4 && t.pc == 0x0102) = true := by
  decide

/-- V125 -/
theorem test_rstv :
    after { start .i8085a [0xCB] [] with f := 0x02 }
      (fun t => t.pc == 0x0040 && t.sp == 0x23FE && t.mem.read 0x23FE == 0x01) = true := by
  decide

/-- V126 -/
theorem test_rstv_not_taken :
    after { start .i8085a [0xCB] [] with f := 0x00 }
      (fun t => t.pc == 0x0101 && t.sp == 0x2400) = true := by
  decide

/-- V127 -/
theorem test_shlx :
    after { start .i8085a [0xD9] [] with h := 0xAB, l := 0xCD, d := 0xFF, e := 0xFF }
      (fun t => t.mem.read 0xFFFF == 0xCD && t.mem.read 0x0000 == 0xAB) = true := by
  decide

/-- V128 -/
theorem test_jnk :
    after { start .i8085a [0xDD, 0x00, 0x40] [] with f := 0x00 }
      (fun t => t.pc == 0x4000) = true := by
  decide

/-- V129 -/
theorem test_lhlx :
    after { start .i8085a [0xED] [(0x3000, 0x34), (0x3001, 0x12)] with d := 0x30 }
      (fun t => t.hl == 0x1234) = true := by
  decide

/-- R419 -/
theorem test_jk :
    after { start .i8085a [0xFD, 0x00, 0x40] [] with f := 0x20 }
      (fun t => t.pc == 0x4000) = true := by
  decide

/-- V130 -/
theorem test_jk_not_taken :
    after { start .i8085a [0xFD, 0x00, 0x40] [] with f := 0x00 }
      (fun t => t.pc == 0x0103) = true := by
  decide

/-! ### Interrupts, reset, input lines, named registers, timing -/

/-- L1.3 step 2 -/
theorem test_trap_entry :
    after { start .i8085a [0x00] [] with pc := 0x0003, trapLatch := true, im := 0b011, ie := true }
      (fun t => t.pc == 0x0024 && t.sp == 0x23FE && !t.trapLatch && t.trapCopyValid &&
        t.trapImCopy == 0b1011 && !t.ie && t.mem.read 0x23FE == 0x03) = true := by decide
/-- V133 step 6: RST6.5 masked, RST5.5 taken -/
theorem test_rst55_entry :
    after { start .i8085a [0x00] [] with ie := true, im := 0b010, rst65Line := true, rst55Line := true }
      (fun t => t.pc == 0x002C && !t.ie && t.im == 0b010) = true := by decide
/-- L1.5 step 4 -/
theorem test_rst75_first :
    after { start .i8085a [0x00] [] with ie := true, p75 := true, rst65Line := true, rst55Line := true }
      (fun t => t.pc == 0x003C && !t.p75) = true := by decide
/-- V132 step 4 -/
theorem test_intr_call :
    after { start .i8080 [0x00] [] with
        ie := true, intrLine := true, pc := 0x0005, inta := some [0xCD, 0x00, 0x30] }
      (fun t => t.pc == 0x3000 && t.mem.read 0x23FE == 0x05 && !t.ie) = true := by decide
/-- V131: INTR with IE = 0 is not taken -/
theorem test_intr_disabled :
    after { start .i8080 [0x00] [] with intrLine := true } (fun t => t.pc == 0x0101) = true := by
  decide
/-- L1.6 step 3: the instruction after EI runs first -/
theorem test_ei_grace :
    after { start .i8080 [0x3C] [] with ie := true, eiDelay := true, intrLine := true }
      (fun t => t.a == 0x01 && !t.eiDelay && t.ie) = true := by decide
/-- V103: an idle step -/
theorem test_halt_idle :
    after { start .i8080 [0x3C] [] with halt := true }
      (fun t => t.a == 0x00 && t.pc == 0x0100 && t.halt && t.events.isEmpty) = true := by decide
/-- A level that stays at 1 sets no latch again (R453). -/
theorem test_trap_edge :
    isNext (setInput .trap 1 State.reset) (fun t => t.trapLatch && t.trapLine) = true ∧
    isNext (setInput .trap 1 { State.reset with trapLine := true }) (fun t => !t.trapLatch) = true := by
  decide
/-- An import of AF on an 8080 variant forces bits 5, 3 and 1 (R55, R35). -/
theorem test_import_af :
    (importReg .af 0x12FF (start .i8080 [] [])).f = 0xD7 ∧
    (importReg .af 0x12FF (start .i8085a [] [])).f = 0xFF := by decide
/-- The first rows of the cycle table (R528). -/
theorem test_cycles :
    cycles .i8080 (.movRR .a .b) true = 5 ∧ cycles .i8085a (.movRR .a .b) true = 4 ∧
    cycles .i8085a (.jnz 0) false = 7 ∧ cycles .i8080 (.cnz 0) false = 11 := by decide

/-! ### Witnesses: states and operands that meet the hypotheses of the statements -/

/-- The three variants. -/
theorem witness_variants :
    (start .i8080 [] []).cfg.variant ≠ .i8085a ∧ (start .i8080a [] []).cfg.variant ≠ .i8085a ∧
    State.reset.cfg.variant = .i8085a := by decide

/-- A state with a device window and plain RAM around it: the clauses of `Loaded` and `Stored`. -/
def withDevice : State :=
  { start .i8080 [] [] with
    cfg := { Config.ofVariant .i8080 with devices := [{ base := 0x8000, size := 0x0100 }] } }
theorem witness_device_and_ram :
    withDevice.mem.wf = true ∧ withDevice.cfg.isDevice 0x8000 = true ∧
    withDevice.cfg.isDevice 0x80FF = true ∧ withDevice.cfg.isDevice 0x7FFF = false ∧
    withDevice.cfg.isDevice 0x8100 = false := by decide

/-- Each condition met and not met: `Jumps`, `Calls`, `Returns`. -/
theorem witness_conditions :
    (∀ ccc : BitVec 3, condMet ccc 0x00 = true ∨ condMet ccc 0xC5 = true) ∧
    (∀ ccc : BitVec 3, condMet ccc 0x00 = false ∨ condMet ccc 0xC5 = false) := by decide

theorem witness_StepKeepsInvariant_8080 :
    (start .i8080 [0x27] []).Inv ∧ after (start .i8080 [0x27] []) (fun _ => true) = true := by decide
theorem witness_StepKeepsInvariant_8085 :
    State.reset.Inv ∧ after State.reset (fun _ => true) = true := by decide

theorem witness_HostActionsKeepInvariant :
    (start .i8080 [] []).Inv ∧ isNext (setInput .intr 1 (start .i8080 [] [])) (fun _ => true) = true ∧
    State.reset.Inv ∧ isNext (setInput .rst75 1 State.reset) (fun _ => true) = true := by decide

theorem witness_DecodeOfEncode :
    (Instr.callAlias 0b01 0xFFFF).wf .i8080 = true ∧ (Instr.sim).wf .i8085a = true := by decide

theorem witness_EncodeOfDecode : decode .i8085a [0xFD, 0x00, 0x40, 0x76] = .ok (.jk 0x4000, [0x76]) :=
  rfl

/-- Code of 1, 2 and 3 bytes at 0xFFFE, across the top of memory. -/
def atTop (op : Byte) : State :=
  { start .i8080 [] [] with pc := 0xFFFE, mem := [(0x0000, 0x12), (0xFFFE, op), (0xFFFF, 0x34)] }
theorem fetches_atTop (op : Byte) : Fetches (atTop op) ∧ CodeIsRam (atTop op) :=
  ⟨⟨rfl, .inr rfl⟩, fun _ _ => rfl⟩
theorem witness_StepRunsTheDecodedInstruction :
    Fetches (atTop 0xC3) ∧ CodeIsRam (atTop 0xC3) ∧
    decode .i8080 [codeByte (atTop 0xC3) 0, codeByte (atTop 0xC3) 1, codeByte (atTop 0xC3) 2] =
      .ok (.jmp 0x1234, []) ∧
    refusesOpcode (atTop 0xC3).cfg (.jmp 0x1234) = false :=
  ⟨(fetches_atTop _).1, (fetches_atTop _).2, rfl, rfl⟩
theorem witness_StepRunsTheDecodedInstruction_one_and_two :
    decode .i8080 [codeByte (atTop 0x04) 0, codeByte (atTop 0x04) 1, codeByte (atTop 0x04) 2] =
      .ok (.inrR .b, [0x34, 0x12]) ∧
    decode .i8080 [codeByte (atTop 0x3E) 0, codeByte (atTop 0x3E) 1, codeByte (atTop 0x3E) 2] =
      .ok (.mviR .a 0x34, [0x12]) :=
  ⟨rfl, rfl⟩
/-- In the grace period a pending interrupt does not keep a step from fetching. -/
theorem witness_Fetches_grace :
    Fetches { start .i8085a [0x00] [] with eiDelay := true, trapLatch := true } :=
  ⟨rfl, .inl rfl⟩

/-- A core that refuses undocumented opcodes. -/
def refusing (op : Byte) : State :=
  { start .i8085a [op] [] with cfg := { Config.ofVariant .i8085a with undoc := .refuse } }
theorem witness_RefusedOpcodes :
    Fetches (refusing 0x08) ∧ (refusing 0x08).cfg.isDevice 0x0100 = false ∧
    (refusing 0x08).cfg.undoc = .refuse ∧
    isRefused (step (refusing 0x08)) .undocumentedOpcode = true ∧
    isRefused (step (refusing 0x20)) .undocumentedOpcode = false :=
  ⟨⟨rfl, .inr rfl⟩, rfl, rfl, by decide, by decide⟩
theorem witness_RefusedOpcodes_hardware :
    Fetches (start .i8085a [0x08] []) ∧ (start .i8085a [0x08] []).cfg.undoc = .hardware :=
  ⟨⟨rfl, .inr rfl⟩, rfl⟩

theorem witness_DaaAddsDecimally :
    IsBcd 0x99 ∧ IsBcd 0x00 ∧ ¬IsBcd 0x9A ∧ IsBcd { start .i8080 [] [] with a := 0x99 }.a := by
  unfold IsBcd; decide

/-- A stack that wraps at the top of memory. -/
theorem witness_StackRoundTrips :
    { start .i8080 [] [] with sp := 0x0001 }.mem.wf = true ∧
    { start .i8080 [] [] with sp := 0x0001 }.cfg.isDevice (0x0001#16 - 1#16) = false ∧
    { start .i8080 [] [] with sp := 0x0001 }.cfg.isDevice (0x0001#16 - 2#16) = false := by decide
theorem witness_SixteenBitMemoryRoundTrip :
    (start .i8080 [] []).mem.wf = true ∧ (start .i8080 [] []).cfg.isDevice 0xFFFF = false ∧
    (start .i8080 [] []).cfg.isDevice (0xFFFF#16 + 1#16) = false := by decide

theorem witness_PortInputAndOutput :
    State.reset.cfg.ioForm = .port8 ∧ ({ State.reset.cfg with ioForm := .portDuplicated } : Config).ioForm =
      .portDuplicated ∧
    lookupCell 0x0010 { State.reset with ioIn := [(0x0010, 0x5A)] }.ioIn = some 0x5A ∧
    lookupCell 0xFFFF State.reset.ioIn = none := by decide

theorem witness_EnableDisableHaltNop :
    { start .i8080 [] [] with halt := true }.eiDelay = false ∧
    arbitrate { start .i8080 [] [] with halt := true } = none := by decide

theorem witness_RimAndSim :
    { State.reset with sidIn := some true }.sidIn = some true ∧ State.reset.sidIn = none ∧
    { State.reset with trapCopyValid := true }.trapCopyValid = true ∧
    State.reset.trapCopyValid = false := by decide

theorem witness_OverflowAndKTransfers8085 :
    { State.reset with f := 0x02 }.f.getLsbD 1 = true ∧ State.reset.f.getLsbD 1 = false ∧
    { State.reset with f := 0x20 }.f.getLsbD 5 = true ∧ State.reset.f.getLsbD 5 = false := by decide

/-- An acknowledge of RST 7 and one of CALL. -/
theorem witness_RunsNeverStop :
    State.reset.cfg.undoc = .hardware ∧
    State.AcknowledgeAdmitted { State.reset with inta := some [0xFF] } ∧
    State.AcknowledgeAdmitted { State.reset with inta := some [0xCD, 0x00, 0x30] } :=
  ⟨rfl, ⟨_, rfl, rfl⟩, ⟨_, rfl, rfl⟩⟩

theorem witness_AccessOrder :
    isNext (exec .xthl (start .i8080 [] [])) (fun t => t.events.length == 4) = true ∧
    isNext (enter .trap (start .i8085a [] [])) (fun t => t.events.length == 3) = true := by decide

theorem witness_OnlyWrittenBytesChange :
    isNext (exec (.sta 0xFFFF) { start .i8080 [] [] with a := 0x55 })
      (fun t => t.mem.read 0xFFFF != 0x00) = true := by decide

theorem witness_ControlStateWriters :
    isNext (exec .ei State.reset) (fun t => t.ie && t.eiDelay) = true ∧
    isNext (exec .sim { State.reset with a := 0x5F, p75 := true, sod := true })
      (fun t => t.im == 0b111 && !t.p75 && !t.sod) = true ∧
    isNext (exec .rim { State.reset with trapCopyValid := true }) (fun t => !t.trapCopyValid) = true ∧
    isNext (exec .hlt State.reset) (fun t => t.halt) = true := by decide

theorem witness_I8080AndI8080ABehaveAlike :
    (start .i8080 [0x27] []).cfg.variant = .i8080 ∧
    after (start .i8080 [0x27] []) (fun _ => true) = true ∧
    isRefused (step { start .i8080 [] [] with ie := true, intrLine := true }) .noAcknowledge = true := by
  decide

theorem witness_TrapEntry :
    { State.reset with trapLatch := true }.cfg.variant = .i8085a ∧
    { State.reset with trapLatch := true }.eiDelay = false := by decide

theorem witness_RstEntries :
    arbitrate { State.reset with ie := true, p75 := true } = some .rst75 ∧
    arbitrate { State.reset with ie := true, rst65Line := true } = some .rst65 ∧
    arbitrate { State.reset with ie := true, rst55Line := true } = some .rst55 := by decide

theorem witness_ArbitrationPriority :
    arbitrate { State.reset with trapLatch := true, ie := true, p75 := true } = some .trap ∧
    arbitrate { State.reset with ie := true, intrLine := true } = some .intr ∧
    arbitrate State.reset = none ∧
    arbitrate { start .i8080 [] [] with ie := true, intrLine := true } = some .intr := by decide

theorem witness_IntrEntry :
    arbitrate { State.reset with ie := true, intrLine := true } = some .intr ∧
    isRefused (step { State.reset with ie := true, intrLine := true }) .noAcknowledge = true ∧
    isRefused (step { State.reset with ie := true, intrLine := true, inta := some [] })
      .unsupportedAcknowledge = true ∧
    isRefused (step { State.reset with ie := true, intrLine := true, inta := some [0xCD] })
      .unsupportedAcknowledge = true ∧
    isRefused (step { State.reset with ie := true, intrLine := true, inta := some [0x00] })
      .unsupportedAcknowledge = true ∧
    after { State.reset with ie := true, intrLine := true, inta := some [0xC7] }
      (fun t => t.pc == 0x0000) = true ∧
    after { State.reset with ie := true, intrLine := true, inta := some [0xFF] }
      (fun t => t.pc == 0x0038) = true := by decide

/-- The instruction runs, is refused (DSUB under REFUSE), a documented one runs under REFUSE, and a
halted core idles. -/
theorem witness_GracePeriod :
    { State.reset with eiDelay := true, trapLatch := true }.halt = false ∧
    State.reset.cfg.undoc = .hardware ∧
    after { State.reset with eiDelay := true, trapLatch := true } (fun t => !t.eiDelay && t.trapLatch) =
      true ∧
    isRefused (step { refusing 0x08 with eiDelay := true, trapLatch := true }) .undocumentedOpcode =
      true ∧
    after { refusing 0x20 with eiDelay := true, trapLatch := true }
      (fun t => !t.eiDelay && t.trapLatch) = true ∧
    after { State.reset with eiDelay := true, halt := true, trapLatch := true }
      (fun t => !t.eiDelay && t.halt && t.trapLatch) = true := by decide

theorem witness_HaltIsLeftOnlyByAnEntry :
    after { State.reset with halt := true, trapLatch := true } (fun t => !t.halt) = true ∧
    { State.reset with halt := true }.eiDelay = false ∧
    arbitrate { State.reset with halt := true, intrLine := true } = none := by decide

theorem witness_TrapIsServicedOncePerEdge :
    State.reset.trapLatch = false ∧
    isNext (Host.Core.run Sys2Proof.core 1 State.reset) (fun t => !t.trapLatch) = true ∧
    after { State.reset with trapLatch := true } (fun t => !t.trapLatch) = true ∧
    isNext (setInput .trap 0 { State.reset with trapLine := true }) (fun t => !t.trapLatch) = true := by
  decide

theorem witness_SetInputLines :
    isNext (setInput .intr 1 (start .i8080 [] [])) (fun t => t.intrLine) = true ∧
    isNext (setInput .rst55 0 State.reset) (fun t => !t.rst55Line) = true ∧
    isRefused (setInput .trap 2 State.reset) .invalidInputLine = true ∧
    isRefused (setInput .rst55 1 (start .i8080 [] [])) .invalidInputLine = true := by decide

/-- Both sides of each hypothesis, with imports at the largest value: each register takes its own
width of it (R55). -/
theorem witness_ImportOfAnExport :
    State.reset.Inv ∧ (start .i8080 [] []).Inv ∧ (start .i8080 [] []).cfg.variant ≠ .i8085a ∧
    State.reset.cfg.variant = .i8085a ∧
    (∀ r ∈ [NamedReg.pc, .sp, .af, .bc, .de, .hl, .half .a, .half .l, .f, .status, .sod, .sid, .inte,
        .halt, .im],
      (exportReg (importReg r 0xFFFF State.reset) r).toNat = 2 ^ Claims.namedWidth r - 1) := by decide
/-- An import of F: bits 5, 3, 1 forced on an 8080 variant, exact on the I8085A, A kept (R55, R35). -/
theorem test_import_f :
    importReg .f 0x1228 (start .i8080 [] []) = { start .i8080 [] [] with f := 0x02 } ∧
    importReg .f 0x1228 (start .i8085a [] []) = { start .i8085a [] [] with f := 0x28 } := by decide
/-- An 8080 variant has no SOD, SID or IM to import (R52, log 15). -/
theorem test_import_absent :
    ∀ r ∈ [NamedReg.sod, .sid, .im], importReg r 0xFFFF (start .i8080 [] []) = start .i8080 [] [] := by
  decide
/-- One register written, its neighbour in the pair and every other field kept (R32). -/
theorem test_set_register :
    (start .i8080 [] []).setReg .b 0x12 = { start .i8080 [] [] with b := 0x12 } ∧
    ((start .i8080 [] []).setReg .l 0xFF).pair .hl = 0x00FF := by decide

end Sys2Proof.Tests
end

section
/-!
SUPPORT. The name of the variant matters only through its class, 8080 or 8085 (00_scope.md R2, R3):
with the name replaced by another of the same class, every operation does the same and answers the
same state but for that name.
-/

namespace Sys2Proof.Machine

/-- The state with another variant's name. -/
def withVariant (v : Variant) (s : State) : State := { s with cfg := { s.cfg with variant := v } }

/-- A result with its next state, if it has one, mapped. -/
def mapNext (g : State → State) : Result → Result
  | .next t => .next (g t)
  | .fault r => .fault r
  | .refused r => .refused r

theorem withVariant_same (s : State) : withVariant s.cfg.variant s = s := rfl

/-! ### Functions of the variant alone -/

section
variable {v w : Variant} (h : v.is8080 = w.is8080)
include h

theorem opLength_congr (op : Byte) : opLength v op = opLength w op := by
  simp only [opLength, h]

theorem decodeOp_congr (op lo hi : Byte) : decodeOp v op lo hi = decodeOp w op lo hi := by
  simp only [decodeOp, decode00, decodeNopRow, decode11, decodePopRow, decodeMiscRow, decodePushRow,
    h]

theorem andAC_congr (x y : Byte) : andAC v x y = andAC w x y := by
  simp only [andAC, h]

theorem cycles_congr (i : Instr) (taken : Bool) : cycles v i taken = cycles w i taken := by
  simp only [cycles, pick, h]

end

/-! ### Updates of the state

Each lemma takes the renamed state by an equation, which holds by `rfl` wherever the state is the
outcome of memory accesses and field updates (written `by rfl` where both sides must be known
before it is checked). -/

section
variable {v : Variant} {s t : State} (ht : t = withVariant v s)
include ht

theorem setReg_withVariant (r : Reg) (x : Byte) : t.setReg r x = withVariant v (s.setReg r x) := by
  subst ht
  cases r <;> rfl

theorem setPair_withVariant (rp : Pair) (x : Word) :
    t.setPair rp x = withVariant v (s.setPair rp x) := by
  subst ht
  cases rp <;> rfl

/-- A choice between two states by a condition that does not depend on the name. -/
theorem ite_withVariant {c : Bool} {s' t' : State} (ht' : t' = withVariant v s') :
    (if c then t else t') = withVariant v (if c then s else s') := by
  subst ht ht'
  exact (apply_ite ..).symm

theorem simMasks_withVariant (x : Byte) : simMasks x t = withVariant v (simMasks x s) := by
  subst ht
  exact ite_withVariant (by rfl) (by rfl)

theorem simLatch_withVariant (x : Byte) : simLatch x t = withVariant v (simLatch x s) := by
  subst ht
  exact ite_withVariant (by rfl) (by rfl)

theorem simSod_withVariant (x : Byte) : simSod x t = withVariant v (simSod x s) := by
  subst ht
  exact ite_withVariant (by rfl) (by rfl)

variable (h : v.is8080 = s.cfg.variant.is8080)
include h

/-- FixF reads the class of the variant only (41_arithmetic.md R203). -/
theorem fixF_withVariant : fixF t = withVariant v (fixF s) := by
  subst ht
  simp only [fixF, undocValue, withVariant, h]
  rfl

/-- So does the auxiliary carry of ANA and ANI (42_logical.md R250). -/
theorem anaA_withVariant {x : Byte} : anaA x t = withVariant v (anaA x s) := by
  subst ht
  exact fixF_withVariant (by simp only [withVariant, andAC_congr h]) h

end

/-! ### The meanings -/

/-- By the update a meaning ends in: one that does not look at the name, a choice by a condition on
F, or FixF. -/
theorem exec_withVariant {v : Variant} {s : State} (h : v.is8080 = s.cfg.variant.is8080)
    (i : Instr) :
    exec i (withVariant v s) = mapNext (withVariant v) (exec i s) := by
  cases i with
  | movMR | mviM | lda | sta | lhld | shld | ldax | stax | xchg | cma | jmp | call | ret | rst
  | pchl | push | pushPsw | xthl | sphl | inPort | outPort | ei | di | hlt | nop | nopAlias
  | jmpAlias | retAlias | callAlias | ldhi | ldsi | shlx | lhlx | rim => rfl
  | movRR | mviR | movRM => exact congrArg Host.Outcome.next (setReg_withVariant (by rfl) ..)
  | lxi | pop => exact congrArg Host.Outcome.next (setPair_withVariant (by rfl) ..)
  | jnz | jz | jnc | jc | jpo | jpe | jp | jm | cnz | cz | cnc | cc | cpo | cpe | cp | cm
  | rnz | rz | rnc | rc | rpo | rpe | rp | rm | rstv | jnk | jk =>
    exact congrArg Host.Outcome.next (ite_withVariant (by rfl) (by rfl))
  | addR | addM | adi | adcR | adcM | aci | subR | subM | sui | sbbR | sbbM | sbi | inrM | dcrM
  | dad | daa | xraR | xraM | xri | oraR | oraM | ori | cmpR | cmpM | cpi | rlc | rrc | ral | rar
  | cmc | stc | popPsw | dsub | arhl | rdel =>
    exact congrArg Host.Outcome.next (fixF_withVariant rfl h)
  | anaR | ani => exact congrArg Host.Outcome.next (anaA_withVariant rfl h)
  | anaM => exact congrArg Host.Outcome.next (anaA_withVariant (s := (readM s).2) (by rfl) h)
  | inrR dst | dcrR dst =>
    cases dst <;> exact congrArg Host.Outcome.next (fixF_withVariant rfl h)
  | inx rp | dcx rp =>
    cases rp <;> exact congrArg Host.Outcome.next (fixF_withVariant rfl h)
  | sim =>
    exact congrArg Host.Outcome.next
      (simSod_withVariant (simLatch_withVariant (simMasks_withVariant (by rfl) _) _) _)

/-! ### The step -/

theorem fetchInstr_withVariant {v : Variant} {s : State} (h : v.is8080 = s.cfg.variant.is8080) :
    fetchInstr (withVariant v s) = ((fetchInstr s).1, withVariant v (fetchInstr s).2) := by
  have hl : opLength v (fetch8 s).1 = opLength s.cfg.variant (fetch8 s).1 := opLength_congr h _
  cases hn : opLength s.cfg.variant (fetch8 s).1 with
  | one =>
    rw [fetchInstr_one hn, fetchInstr_one (hl.trans hn)]
    exact congrArg (·, _) (decodeOp_congr h ..)
  | two =>
    rw [fetchInstr_two hn, fetchInstr_two (hl.trans hn)]
    exact congrArg (·, _) (decodeOp_congr h ..)
  | three =>
    rw [fetchInstr_three hn, fetchInstr_three (hl.trans hn)]
    exact congrArg (·, _) (decodeOp_congr h ..)

theorem fetchInstr_synthStatus_withVariant {v : Variant} {s : State}
    (h : v.is8080 = s.cfg.variant.is8080) :
    fetchInstr (synthStatus (withVariant v s)) =
      ((fetchInstr (synthStatus s)).1, withVariant v (fetchInstr (synthStatus s)).2) :=
  fetchInstr_withVariant (s := synthStatus s) h

theorem arbitrate_withVariant {v : Variant} {s : State} (h : v.is8080 = s.cfg.variant.is8080) :
    arbitrate (withVariant v s) = arbitrate s := by
  simp only [arbitrate, withVariant, h]
  rfl

theorem enter_withVariant (v : Variant) (src : Source) (s : State) :
    enter src (withVariant v s) = mapNext (withVariant v) (enter src s) := by
  cases src with
  | trap | rst75 | rst65 | rst55 => rfl
  | intr =>
    show enterIntr (withVariant v (enterCommon s)) =
      mapNext (withVariant v) (enterIntr (enterCommon s))
    generalize enterCommon s = t
    have hi : (withVariant v t).inta = t.inta := rfl
    unfold enterIntr
    rw [hi]
    cases t.inta with
    | none => rfl
    | some bytes =>
      dsimp only
      cases ackTarget bytes <;> rfl

theorem fetchAndRun_withVariant {v : Variant} {s : State} (h : v.is8080 = s.cfg.variant.is8080) :
    fetchAndRun (withVariant v s) = mapNext (withVariant v) (fetchAndRun s) := by
  have hc : (fetchInstr (synthStatus s)).2.cfg = s.cfg := by rw [fetchInstr_frame]; rfl
  show (if s.halt then _ else _) = mapNext _ (if s.halt then _ else _)
  cases s.halt with
  | true => rfl
  | false =>
    simp only [Bool.false_eq_true, if_false, fetchInstr_synthStatus_withVariant h]
    show (if refusesOpcode s.cfg _ then _ else _) = _
    cases refusesOpcode s.cfg (fetchInstr (synthStatus s)).1 with
    | true => rfl
    | false => exact exec_withVariant (by rw [hc, h]) _

/-- With the variant's name replaced by one of the same class, a step does the same. -/
theorem step_withVariant {v : Variant} {s : State} (h : v.is8080 = s.cfg.variant.is8080) :
    step (withVariant v s) = mapNext (withVariant v) (step s) := by
  unfold step
  rw [arbitrate_withVariant h]
  show (if s.eiDelay then _ else _) = mapNext _ (if s.eiDelay then _ else _)
  cases s.eiDelay with
  | true => exact fetchAndRun_withVariant (s := { s with eiDelay := false }) h
  | false =>
    cases arbitrate s with
    | some src => exact enter_withVariant v src (synthStatus s)
    | none => exact fetchAndRun_withVariant h

/-- A step keeps the variant: replacing the name by itself leaves the state before the step, and so
the state after it, as it is. -/
theorem step_variant {s t : State} (h : step s = .next t) : t.cfg.variant = s.cfg.variant := by
  have hm := step_withVariant (v := s.cfg.variant) (s := s) rfl
  rw [withVariant_same, h] at hm
  injection hm with ht
  exact congrArg (·.cfg.variant) ht

/-! ### The cost of a step -/

theorem fetchCost_withVariant {v : Variant} {s : State} (h : v.is8080 = s.cfg.variant.is8080)
    (n : Nat) : fetchCost n (withVariant v s) = fetchCost n s := by
  unfold fetchCost
  rw [fetchInstr_synthStatus_withVariant h]
  exact congrArg (if s.halt then n else ·) (cycles_congr h ..)

theorem stepCost_withVariant {v : Variant} {s : State} (h : v.is8080 = s.cfg.variant.is8080)
    (n : Nat) : stepCost n (withVariant v s) = stepCost n s := by
  unfold stepCost
  rw [arbitrate_withVariant h, fetchCost_withVariant h]
  rfl

end Sys2Proof.Machine

namespace Sys2Proof.Claims

open Sys2Proof Sys2Proof.Machine

theorem as8080A_eq_withVariant : as8080A = withVariant .i8080a := rfl

/-- Settles O49: both names are of the 8080 class, and within a class the name has no part in a
step. -/
theorem i8080AndI8080ABehaveAlike : Obligations.I8080AndI8080ABehaveAlike := by
  unfold Obligations.I8080AndI8080ABehaveAlike
  rw [as8080A_eq_withVariant]
  intro s hs
  have hclass : Variant.i8080a.is8080 = s.cfg.variant.is8080 := by rw [hs]; rfl
  refine ⟨fun t ht => ⟨(step_variant ht).trans hs, ?_⟩, fun r hr => ?_,
    stepCost_withVariant hclass⟩
  · rw [step_withVariant hclass, ht]; rfl
  · rw [step_withVariant hclass, hr]; rfl

end Sys2Proof.Claims
end

section
/-!
SUPPORT. Every step keeps the invariant (10_state.md R35, R52, 20_memory.md R80): a lemma for each
shared operation, from them one for the meanings, the entries and the step. RIM and SIM touch what
an 8080 variant holds idle; the decoder gives them to the I8085A only.
-/

namespace Sys2Proof.Machine

/-! ### The invariant in two parts -/

/-- Bits 5, 3 and 1 of F as they are on the 8080 variants (10_state.md R35). -/
abbrev Fixed8080F (f : Byte) : Prop := flagK f = false ∧ flagX3 f = false ∧ flagV f = true

/-- The part of `State.Inv` that does not speak of F: what an operation that rewrites F needs. -/
abbrev State.InvBesideF (s : State) : Prop :=
  s.mem.wf = true ∧ (s.cfg.variant.is8080 = true → s.Quiet8085)

theorem inv_iff {s : State} :
    s.Inv ↔ s.InvBesideF ∧ (s.cfg.variant.is8080 = true → Fixed8080F s.f) :=
  ⟨fun ⟨hm, h⟩ => ⟨⟨hm, fun hv => (h hv).2⟩, fun hv => (h hv).1⟩,
    fun ⟨⟨hm, hq⟩, hf⟩ => ⟨hm, fun hv => ⟨hf hv, hq hv⟩⟩⟩

theorem State.Inv.besideF {s : State} (h : s.Inv) : s.InvBesideF := (inv_iff.1 h).1

/-- On the I8085A canonical memory is all the invariant asks. -/
theorem inv_of_8085 {s : State} (hv : s.cfg.variant.is8080 = false) (hm : s.mem.wf = true) :
    s.Inv :=
  ⟨hm, fun h => absurd (hv.symm.trans h) (by decide)⟩

/-! ### The shared operations -/

theorem log_inv {ev : Event} {s : State} (h : s.Inv) : (s.log ev).Inv := h

theorem synthStatus_inv {s : State} (h : s.Inv) : (synthStatus s).Inv := h

theorem memRead_inv {x : Word} {s : State} (h : s.Inv) : (memRead x s).2.Inv := h

theorem memRead16_inv {x : Word} {s : State} (h : s.Inv) : (memRead16 x s).2.Inv := by
  rw [memRead16_frame]
  exact h

theorem pop16_inv {s : State} (h : s.Inv) : (pop16 s).2.Inv := by
  rw [pop16_frame]
  exact h

theorem returnPC_inv {s : State} (h : s.Inv) : (returnPC s).Inv := by
  rw [returnPC_frame]
  exact h

theorem memWrite_inv {x : Word} {v : Byte} {s : State} (h : s.Inv) : (memWrite x v s).Inv :=
  ⟨memWrite_wf h.1, h.2⟩

theorem memWrite16_inv {x v : Word} {s : State} (h : s.Inv) : (memWrite16 x v s).Inv :=
  ⟨memWrite16_wf h.1, h.2⟩

theorem push16_inv {v : Word} {s : State} (h : s.Inv) : (push16 v s).Inv :=
  ⟨push16_wf h.1, h.2⟩

theorem callTo_inv {x : Word} {s : State} (h : s.Inv) : (callTo x s).Inv := by
  rw [callTo_frame]
  exact ⟨push16_wf h.1, h.2⟩

theorem setReg_inv {r : Reg} {x : Byte} {s : State} (h : s.Inv) : (s.setReg r x).Inv := by
  cases r <;> exact h

theorem setHL_inv {v : Word} {s : State} (h : s.Inv) : (s.setHL v).Inv := h

theorem setPair_inv {rp : Pair} {v : Word} {s : State} (h : s.Inv) : (s.setPair rp v).Inv := by
  cases rp <;> exact h

theorem fixF_inv {s : State} (h : s.InvBesideF) : (fixF s).Inv := by
  refine inv_iff.2 ⟨h, fun hv => ?_⟩
  obtain ⟨hk, hx, hv, -⟩ := fixF_8080 (s := s) hv
  exact ⟨hk, hx, hv⟩

theorem ite_inv {c : Prop} [Decidable c] {s t : State} (hs : s.Inv) (ht : t.Inv) :
    (if c then s else t).Inv := by
  split
  · exact hs
  · exact ht

theorem next_inv {s t : State} (h : (.next s : Result) = .next t) (hs : s.Inv) : t.Inv := by
  injection h with h
  exact h ▸ hs

/-! ### The decoder -/

theorem decodeNopRow_presentOn (v : Variant) (y : BitVec 3) (lo : Byte) :
    (decodeNopRow v y lo).origin.presentOn v = true := by
  unfold decodeNopRow
  split <;> cases v <;> rfl

theorem decodePopRow_presentOn (v : Variant) (y : BitVec 3) :
    (decodePopRow v y).origin.presentOn v = true := by
  unfold decodePopRow
  split
  case h_5 => cases StackPair.ofCode (y.extractLsb' 1 2) <;> rfl
  all_goals cases v <;> rfl

theorem decodeMiscRow_presentOn (v : Variant) (y : BitVec 3) (lo hi : Byte) :
    (decodeMiscRow v y lo hi).origin.presentOn v = true := by
  unfold decodeMiscRow
  split <;> cases v <;> rfl

theorem decodePushRow_presentOn (v : Variant) (y : BitVec 3) (a16 : Word) :
    (decodePushRow v y a16).origin.presentOn v = true := by
  unfold decodePushRow
  split
  case h_5 => cases StackPair.ofCode (y.extractLsb' 1 2) <;> rfl
  all_goals cases v <;> rfl

theorem decode00_presentOn (v : Variant) (y z : BitVec 3) (lo hi : Byte) :
    (decode00 v y z lo hi).origin.presentOn v = true := by
  unfold decode00
  dsimp only
  split
  · exact decodeNopRow_presentOn v y lo
  · split <;> rfl
  · unfold decodeDirectRow
    split <;> rfl
  · split <;> rfl
  · cases Reg.ofCode y <;> rfl
  · cases Reg.ofCode y <;> rfl
  · cases Reg.ofCode y <;> rfl
  · unfold decodeAccRow
    split <;> rfl

theorem decode11_presentOn (v : Variant) (y z : BitVec 3) (lo hi : Byte) :
    (decode11 v y z lo hi).origin.presentOn v = true := by
  unfold decode11
  split
  · unfold decodeRcc
    split <;> rfl
  · exact decodePopRow_presentOn v y
  · unfold decodeJcc
    split <;> rfl
  · exact decodeMiscRow_presentOn v y lo hi
  · unfold decodeCcc
    split <;> rfl
  · exact decodePushRow_presentOn v y _
  · unfold decodeAluImm
    split <;> rfl
  · rfl

/-- The decoder gives a variant only instructions the variant has (30_encoding.md R130). -/
theorem decodeOp_presentOn (v : Variant) (op lo hi : Byte) :
    (decodeOp v op lo hi).origin.presentOn v = true := by
  unfold decodeOp
  dsimp only
  split
  · exact decode00_presentOn ..
  · unfold decode01
    split <;> rfl
  · unfold decode10
    split <;> rfl
  · exact decode11_presentOn ..

theorem fetchInstr_presentOn (s : State) :
    (fetchInstr s).1.origin.presentOn (fetchInstr s).2.cfg.variant = true := by
  rw [fetchInstr_frame]
  cases h : opLength s.cfg.variant (fetch8 s).1 with
  | one => rw [fetchInstr_one h]; exact decodeOp_presentOn ..
  | two => rw [fetchInstr_two h]; exact decodeOp_presentOn ..
  | three => rw [fetchInstr_three h]; exact decodeOp_presentOn ..

theorem fetchInstr_inv {s : State} (h : s.Inv) : (fetchInstr s).2.Inv := by
  rw [fetchInstr_frame]
  exact h

/-! ### The meanings -/

/-- SIM writes the masks, the RST7.5 latch and SOD only. -/
theorem sim_cfg_mem (x : Byte) (s : State) :
    (simSod x (simLatch x (simMasks x s))).cfg = s.cfg ∧
    (simSod x (simLatch x (simMasks x s))).mem = s.mem := by
  unfold simSod simLatch simMasks
  split_ifs <;> exact ⟨rfl, rfl⟩

/-- By the update a meaning ends in: FixF, which forces F; a memory write; a choice between two
states; a change of fields the invariant does not speak of (`by exact` where the state before it must
be known first). -/
theorem exec_inv {i : Instr} {s t : State} (hi : i.origin.presentOn s.cfg.variant = true)
    (h : s.Inv) (he : exec i s = .next t) : t.Inv := by
  cases i with
  | lda | ldax | xchg | cma | jmp | pchl | sphl | inPort | outPort | ei | di | hlt | nop | nopAlias
  | jmpAlias | ldhi | ldsi => exact next_inv he (by exact h)
  | movRR | mviR | movRM => exact next_inv he (setReg_inv (by exact h))
  | lxi => exact next_inv he (setPair_inv h)
  | pop => exact next_inv he (setPair_inv (pop16_inv h))
  | lhld | lhlx => exact next_inv he (setHL_inv (memRead16_inv h))
  | movMR | mviM | sta | stax => exact next_inv he (memWrite_inv h)
  | shld | shlx => exact next_inv he (memWrite16_inv h)
  | xthl => exact next_inv he (setHL_inv (memWrite_inv (memWrite_inv (memRead16_inv h))))
  | push | pushPsw => exact next_inv he (push16_inv h)
  | call | rst | callAlias => exact next_inv he (callTo_inv h)
  | ret | retAlias => exact next_inv he (returnPC_inv h)
  | jnz | jz | jnc | jc | jpo | jpe | jp | jm | jnk | jk =>
    exact next_inv he (ite_inv (by exact h) (by exact h))
  | cnz | cz | cnc | cc | cpo | cpe | cp | cm | rstv => exact next_inv he (ite_inv (callTo_inv h) h)
  | rnz | rz | rnc | rc | rpo | rpe | rp | rm => exact next_inv he (ite_inv (returnPC_inv h) h)
  | addR | addM | adi | adcR | adcM | aci | subR | subM | sui | sbbR | sbbM | sbi
  | dad | daa | anaR | anaM | ani | xraR | xraM | xri | oraR | oraM | ori | cmpR | cmpM | cpi
  | rlc | rrc | ral | rar | cmc | stc | dsub | arhl | rdel =>
    exact next_inv he (fixF_inv h.besideF)
  | popPsw => exact next_inv he (fixF_inv (pop16_inv h).besideF)
  | inrM | dcrM => exact next_inv he (fixF_inv (memWrite_inv (memRead_inv h)).besideF)
  | inrR dst | dcrR dst => exact next_inv he (fixF_inv (setReg_inv h (r := dst)).besideF)
  | inx rp | dcx rp => exact next_inv he (fixF_inv (setPair_inv h (rp := rp)).besideF)
  | rim => exact next_inv he (inv_of_8085 (Bool.eq_false_of_not_eq_true' hi) h.1)
  | sim =>
    obtain ⟨hc, hm⟩ := sim_cfg_mem s.a s
    exact next_inv he (inv_of_8085 (hc ▸ Bool.eq_false_of_not_eq_true' hi) (hm ▸ h.1))

/-! ### The step -/

/-- Arbitration answers only sources the variant has (60_exceptions.md R451). -/
theorem arbitrate_linePresent {src : Source} {s : State} (h : arbitrate s = some src) :
    linePresent s.cfg.variant src = true := by
  cases hv : s.cfg.variant.is8080 with
  | false => cases src <;> simp [linePresent, hv]
  | true =>
    simp only [arbitrate, hv, if_true, arbitrateIntr] at h
    split at h
    · injection h with h
      rw [← h]
      rfl
    · cases h

theorem enterCommon_inv {s : State} (h : s.Inv) : (enterCommon s).Inv := by
  rw [enterCommon_frame]
  exact h

theorem enterTrap_inv {saved : BitVec 4} {s : State} (hv : s.cfg.variant.is8080 = false)
    (h : s.Inv) : (enterTrap saved s).Inv :=
  inv_of_8085 hv (callTo_wf (target := 0x0024#16)
    (s := { s with trapImCopy := saved, trapCopyValid := true }) h.1)

theorem enterRst75_inv {s : State} (hv : s.cfg.variant.is8080 = false) (h : s.Inv) :
    (enterRst75 s).Inv :=
  inv_of_8085 hv (callTo_wf (target := 0x003C#16) h.1)

theorem enter_inv {src : Source} {s t : State} (hp : linePresent s.cfg.variant src = true)
    (h : s.Inv) (he : enter src s = .next t) : t.Inv := by
  obtain ⟨rfl, rfl⟩ | ⟨rfl, rfl⟩ | ⟨rfl, rfl⟩ | ⟨rfl, rfl⟩ | ⟨rfl, _, _, -, -, rfl⟩ :=
    enter_cases he
  · exact enterTrap_inv (Bool.eq_false_of_not_eq_true' hp) (enterCommon_inv h)
  · exact enterRst75_inv (Bool.eq_false_of_not_eq_true' hp) (enterCommon_inv h)
  · exact callTo_inv (enterCommon_inv h)
  · exact callTo_inv (enterCommon_inv h)
  · exact callTo_inv (log_inv (enterCommon_inv h))

theorem step_inv {s t : State} (h : s.Inv) (hs : step s = .next t) : t.Inv := by
  have h' : State.Inv { s with eiDelay := false } := h
  obtain ⟨src, -, ha, he⟩ | ⟨-, -, ht⟩ | ⟨-, -, i, u, hf, -, he⟩ := step_cases hs
  · exact enter_inv (s := synthStatus s) (arbitrate_linePresent ha) (synthStatus_inv h) he
  · exact ht ▸ h'
  · have hu := fetchInstr_inv (synthStatus_inv h')
    have hi := fetchInstr_presentOn (synthStatus { s with eiDelay := false })
    rw [hf] at hu hi
    exact exec_inv hi hu he

end Sys2Proof.Machine

namespace Sys2Proof.Claims

open Sys2Proof Sys2Proof.Machine

/-- Settles O4: an entry is from a source the variant has, and an instruction run is one the variant
has, which leaves RIM and SIM to the I8085A. -/
theorem stepKeepsInvariant : Obligations.StepKeepsInvariant := by
  unfold Obligations.StepKeepsInvariant
  exact fun _ _ => step_inv

end Sys2Proof.Claims
end

section
/-!
SUPPORT. Reset, the input lines and the imports of named registers keep the invariant
(10_state.md R35, R52, R55, 60_exceptions.md R452). What rewrites F forces it on an 8080 variant,
what that variant lacks the host cannot change.
-/

namespace Sys2Proof.Machine

/-! ### F as a reset or an import of the value leaves it -/

theorem forceF_fixed {v : Variant} (hv : v.is8080 = true) (f : Byte) :
    Fixed8080F (forceF v f) := by
  simp [forceF, hv, Fixed8080F]

theorem inv_of_forceF {s : State} {f : Byte} (h : s.InvBesideF)
    (hf : s.f = forceF s.cfg.variant f) : s.Inv :=
  inv_iff.2 ⟨h, fun hv => hf ▸ forceF_fixed hv f⟩

/-! ### Host actions -/

/-- Reset keeps the line levels and SID, so it needs the idle state before it; F it forces. -/
theorem hostReset_inv {s : State} (h : s.InvBesideF) (x : ResetDraws) : (hostReset x s).Inv := by
  obtain ⟨hm, hq⟩ := h
  refine inv_of_forceF (f := x.f) ⟨hm, fun hv => ?_⟩ rfl
  obtain ⟨-, -, -, h55, h65, h75, htrap, -, -, -, hsid⟩ := hq hv
  exact ⟨rfl, rfl, rfl, h55, h65, h75, htrap, rfl, rfl, rfl, hsid⟩

theorem driveLine_inv {line : Source} {s : State} (hp : linePresent s.cfg.variant line = true)
    (h : s.Inv) (level : Bool) : (driveLine line level s).Inv := by
  cases line with
  | trap | rst75 | rst65 | rst55 => exact inv_of_8085 (Bool.eq_false_of_not_eq_true' hp) h.1
  | intr => exact h

/-- An accepted `execute_set_input` drives a line the variant has (60_exceptions.md R475). -/
theorem setInput_cases {line : Source} {level : Nat} {s t : State}
    (h : setInput line level s = .next t) :
    linePresent s.cfg.variant line = true ∧ ∃ b, t = driveLine line b s := by
  unfold setInput at h
  split at h
  · refine ⟨‹_›, ?_⟩
    split at h
    · injection h with h
      exact ⟨false, h.symm⟩
    · injection h with h
      exact ⟨true, h.symm⟩
    · cases h
  · cases h

theorem importReg_inv {s : State} (h : s.Inv) (r : NamedReg) (v : Word) :
    (importReg r v s).Inv := by
  cases r with
  | pc | sp | status | inte | halt => exact h
  | bc | de | hl => exact setPair_inv h
  | half r => exact setReg_inv h
  | af | f => exact inv_of_forceF (f := Word.lo v) h.besideF rfl
  | sod | sid | im =>
    rw [importReg]
    split
    · exact h
    · exact inv_of_8085 (Bool.eq_false_iff.2 ‹_›) h.1

end Sys2Proof.Machine

namespace Sys2Proof.Claims

open Sys2Proof Sys2Proof.Machine

/-- Settles O3: a reset of a state whose memory is empty and whose 8085A-only state is idle. -/
theorem invariantAtReset : Obligations.InvariantAtReset := by
  unfold Obligations.InvariantAtReset
  refine ⟨by decide, fun v x => hostReset_inv ⟨rfl, fun _ => ?_⟩ x⟩
  exact ⟨rfl, rfl, rfl, rfl, rfl, rfl, rfl, rfl, rfl, rfl, rfl⟩

/-- Settles O5, one lemma for each host action. -/
theorem hostActionsKeepInvariant : Obligations.HostActionsKeepInvariant := by
  unfold Obligations.HostActionsKeepInvariant
  refine fun s h => ⟨hostReset_inv h.besideF, fun line level t ht => ?_, importReg_inv h⟩
  obtain ⟨hp, b, rfl⟩ := setInput_cases ht
  exact driveLine_inv hp h b

end Sys2Proof.Claims
end

section
/-!
SUPPORT. The layout of the register pairs (10_state.md R32), and what the host reads and writes as the
named registers (R55): a value goes in by its low bits and comes out zero-extended.
-/

namespace Sys2Proof.Machine

/-! ### Words and their parts -/

theorem word_of_toNat (h l : Byte) : (Word.of h l).toNat = 256 * h.toNat + l.toNat := by
  rw [Word.of, BitVec.toNat_append, ← Nat.shiftLeft_add_eq_or_of_lt l.isLt, Nat.shiftLeft_eq]
  omega

theorem hi_lo_toNat (v : Word) : 256 * (Word.hi v).toNat + (Word.lo v).toNat = v.toNat := by
  rw [← word_of_toNat, word_of_hi_lo]

theorem word_of_hi_lo_toNat (v : Word) :
    (Word.of (Word.hi v) (Word.lo v)).toNat = v.toNat % 2 ^ 16 := by
  rw [word_of_hi_lo, Nat.mod_eq_of_lt v.isLt]

theorem extractLsb_setWidth {n : Nat} (hn : n ≤ 16) (x : BitVec n) :
    (x.setWidth 16).extractLsb' 0 n = x := by
  apply BitVec.eq_of_toNat_eq
  rw [BitVec.extractLsb'_toNat, BitVec.toNat_setWidth_of_le hn, Nat.shiftRight_zero,
    Nat.mod_eq_of_lt x.isLt]

theorem setWidth_extractLsb_toNat {n : Nat} (hn : n ≤ 16) (v : Word) :
    ((v.extractLsb' 0 n).setWidth 16).toNat = v.toNat % 2 ^ n := by
  rw [BitVec.toNat_setWidth_of_le hn, BitVec.extractLsb'_toNat, Nat.shiftRight_zero]

theorem bitWord_getLsbD (b : Bool) : (bitWord b).getLsbD 0 = b := by
  cases b <;> rfl

theorem bitWord_toNat (v : Word) : (bitWord (v.getLsbD 0)).toNat = v.toNat % 2 ^ 1 := by
  rw [BitVec.toNat_setWidth_of_le (by decide), BitVec.toNat_ofBool, BitVec.getLsbD,
    Nat.testBit_zero]
  rcases Nat.mod_two_eq_zero_or_one v.toNat with h | h <;> simp [h]

/-! ### Bits of F that are fixed already -/

theorem putUndoc_of_fixed (f : Byte) (h : Fixed8080F f) : putUndoc fixed8080 f = f := by
  revert f
  decide

theorem forceF_of_fixed {v : Variant} {f : Byte} (h : v.is8080 = true → Fixed8080F f) :
    forceF v f = f := by
  unfold forceF
  split
  · exact putUndoc_of_fixed f (h ‹_›)
  · rfl

/-! ### Registers -/

theorem setReg_reg (s : State) (r : Reg) : s.setReg r (s.reg r) = s := by
  cases r <;> rfl

/-- Every named register takes back what it exports; F does where it is as R35 fixes it. -/
theorem importReg_exportReg {s : State} (hf : s.cfg.variant.is8080 = true → Fixed8080F s.f)
    (r : NamedReg) : { importReg r (exportReg s r) s with events := s.events } = s := by
  have low8 (x : Byte) : Word.lo (x.setWidth 16) = x := extractLsb_setWidth (by decide) x
  have low3 (x : BitVec 3) := extractLsb_setWidth (by decide) x
  cases r with
  | pc | sp => rfl
  | status => simp only [importReg, exportReg, low8]
  | inte | halt => simp only [importReg, exportReg, bitWord_getLsbD, setIE]
  | bc | de | hl => simp only [importReg, exportReg, State.setPair, hi_of, lo_of]
  | half r => simp only [importReg, exportReg, low8, setReg_reg]
  | af => simp only [importReg, exportReg, hi_of, lo_of, forceF_of_fixed hf]
  | f => simp only [importReg, exportReg, low8, forceF_of_fixed hf]
  | sod | sid | im =>
    simp only [importReg, exportReg, bitWord_getLsbD, low3]
    split <;> rfl

/-- A register answers the value imported, cut to its width, but where an 8080 variant forces bits of
F (R35) or lacks the register (R52). -/
theorem exportReg_importReg {s : State} {r : NamedReg} (v : Word)
    (h : s.cfg.variant = .i8085a ∨ r ∉ [.af, .f, .sod, .sid, .im]) :
    (exportReg (importReg r v s) r).toNat = v.toNat % 2 ^ Claims.namedWidth r := by
  cases r with
  | pc | sp => exact (Nat.mod_eq_of_lt v.isLt).symm
  | bc | de | hl => exact word_of_hi_lo_toNat v
  | half r =>
    rw [importReg, exportReg, reg_setReg_same]
    exact setWidth_extractLsb_toNat (by decide) v
  | status => exact setWidth_extractLsb_toNat (by decide) v
  | inte | halt => exact bitWord_toNat v
  | sod | sid =>
    rw [importReg, h.resolve_right (by decide)]
    exact bitWord_toNat v
  | im =>
    rw [importReg, h.resolve_right (by decide)]
    exact setWidth_extractLsb_toNat (by decide) v
  | f =>
    rw [importReg, h.resolve_right (by decide)]
    exact setWidth_extractLsb_toNat (by decide) v
  | af =>
    rw [importReg, h.resolve_right (by decide)]
    exact word_of_hi_lo_toNat v

end Sys2Proof.Machine

namespace Sys2Proof.Claims

open Sys2Proof Sys2Proof.Machine

theorem onlyRegs_setReg (s : State) (r : Reg) (v : Byte) : OnlyRegs s (s.setReg r v) := by
  cases r <;> rfl

/-- Settles O13: a pair is the concatenation of its registers, first-named first. -/
theorem registerPairLayout : Obligations.RegisterPairLayout := by
  unfold Obligations.RegisterPairLayout
  intro s v
  exact ⟨word_of_toNat _ _, word_of_toNat _ _, word_of_toNat _ _, rfl,
    ⟨_, rfl, rfl, hi_lo_toNat v⟩, ⟨_, rfl, rfl, hi_lo_toNat v⟩, ⟨_, rfl, rfl, hi_lo_toNat v⟩,
    rfl, fun r x => ⟨_, rfl, regSet_setReg s r x, onlyRegs_setReg s r x⟩, rfl, rfl, rfl, rfl,
    word_of_toNat _ _, rfl, fun _ => rfl⟩

/-- Settles O58: both round trips, then each import by its equation. -/
theorem importOfAnExport : Obligations.ImportOfAnExport := by
  unfold Obligations.ImportOfAnExport
  intro s
  refine ⟨fun h => importReg_exportReg (inv_iff.1 h).2, fun r v => exportReg_importReg v,
    fun v => ⟨rfl, rfl, ⟨_, rfl, rfl, word_of_hi_lo v⟩, ⟨_, rfl, rfl, word_of_hi_lo v⟩,
      ⟨_, rfl, rfl, word_of_hi_lo v⟩,
      fun r => ⟨_, rfl, regSet_setReg s r _, onlyRegs_setReg s r _⟩,
      ⟨_, rfl, rfl, importedF_of rfl⟩, ⟨_, rfl, rfl, importedF_of rfl⟩, rfl, rfl, rfl,
      fun hv => ?_, fun hv => ?_⟩⟩
  · have h8080 := (not_is8080_iff _).2 hv
    have low3 : v.extractLsb' 0 3 = v.setWidth 3 :=
      (BitVec.setWidth_eq_extractLsb' (by decide)).symm
    simp only [importReg, h8080, Bool.false_eq_true, if_false, low3, setSOD, and_self]
  · have h8080 := (is8080_iff _).2 hv
    simp only [importReg, h8080, if_true, and_self]

end Sys2Proof.Claims
end

section
/-!
SUPPORT. 16-bit reads after 16-bit writes, and pops after pushes, in canonical plain RAM
(20_memory.md R84, R95).
-/

namespace Sys2Proof.Claims

open Sys2Proof Sys2Proof.Machine

/-- Where a 16-bit value was stored in plain RAM, a 16-bit read answers it and spends no free
value. -/
theorem memRead16_of_stored2 {s t : State} {x v : Word} (h : Stored2 s t x v) (hc : t.cfg = s.cfg)
    (hw : s.mem.wf = true) (hx : s.cfg.isDevice x = false)
    (hx1 : s.cfg.isDevice (x + 1#16) = false) :
    (memRead16 x t).1 = v ∧ (memRead16 x t).2.draws = t.draws := by
  obtain ⟨hlo, hhi, -⟩ := h
  obtain ⟨hv, hd⟩ := memRead16_ram (s := t) (hc ▸ hx) (hc ▸ hx1)
  rw [hv, hlo hw hx, hhi hw hx1, word_of_hi_lo]
  exact ⟨rfl, hd⟩

theorem stored2_memWrite16 (x v : Word) (s : State) : Stored2 s (memWrite16 x v s) x v :=
  stored2_of rfl rfl (.inl rfl)

/-- `Pop16` after `Push16` answers the value pushed and restores SP and every other register. -/
theorem pop16_push16 {s : State} (v : Word) (hw : s.mem.wf = true)
    (h1 : s.cfg.isDevice (s.sp - 1#16) = false) (h2 : s.cfg.isDevice (s.sp - 2#16) = false) :
    ∃ m ev, pop16 (push16 v s) = (v, { s with mem := m, events := ev }) := by
  have hst : Stored2 s (push16 v s) (s.sp - 2#16) v := stored2_push16 rfl rfl rfl rfl
  obtain ⟨hv, hd⟩ := memRead16_of_stored2 hst rfl hw h2 (by rwa [sp_sub_two_succ])
  have hsp : (push16 v s).sp + 2#16 = s.sp := BitVec.sub_add_cancel ..
  have hd' : (pop16 (push16 v s)).2.draws = s.draws := hd
  refine ⟨(push16 v s).mem, (pop16 (push16 v s)).2.events, Prod.ext hv ?_⟩
  rw [pop16_frame, hsp, hd']
  rfl

/-- A return from a call comes back to the caller, with SP and every register restored. -/
theorem returnPC_callTo {s : State} (target : Word) (hw : s.mem.wf = true)
    (h1 : s.cfg.isDevice (s.sp - 1#16) = false) (h2 : s.cfg.isDevice (s.sp - 2#16) = false) :
    ∃ m ev, returnPC (callTo target s) = { s with mem := m, events := ev } := by
  obtain ⟨m, ev, h⟩ := pop16_push16 s.pc hw h1 h2
  have hr : returnPC (callTo target s) =
      { (pop16 (push16 s.pc s)).2 with pc := (pop16 (push16 s.pc s)).1 } := rfl
  exact ⟨m, ev, by rw [hr, h]⟩

/-- Settles O37: the write stores both bytes, and each read answers what is stored. -/
theorem sixteenBitMemoryRoundTrip : Obligations.SixteenBitMemoryRoundTrip := by
  unfold Obligations.SixteenBitMemoryRoundTrip
  intro s x v hw hx hx1
  have hst := stored2_memWrite16 x v s
  obtain ⟨hlo, hhi, -⟩ := stored2_memWrite16 x v s
  refine ⟨(memRead16_of_stored2 hst rfl hw hx hx1).1, ?_, ?_, memRead16_loaded2Events x s, rfl⟩
  · rw [memRead_ram (s := memWrite16 x v s) hx, hlo hw hx]
  · rw [memRead_ram (s := memWrite16 x v s) hx1, hhi hw hx1]

/-- Settles O36: `Pop16` undoes `Push16`; CALL and RST are a push of PC, RET is a pop into it. -/
theorem stackRoundTrips : Obligations.StackRoundTrips := by
  unfold Obligations.StackRoundTrips
  refine ⟨fun s p q hw h1 h2 => ?_, fun s i hw h1 h2 hi => ?_⟩
  · obtain ⟨m, ev, h⟩ := pop16_push16 (s.pair (pairOfStack p)) hw h1 h2
    have hx : execAll [.push p, .pop q] s = .next
        ((pop16 (push16 (s.pair (pairOfStack p)) s)).2.setPair (pairOfStack q)
          (pop16 (push16 (s.pair (pairOfStack p)) s)).1) := rfl
    rw [h] at hx
    refine ⟨_, hx, pairSet_of (fun r => ?_) (setPair_a ..), setPair_f .., setPair_draws ..,
      setPair_pc ..⟩
    cases q <;> cases r <;> rfl
  · obtain ⟨target, hx⟩ : ∃ target, execAll [i, .ret] s = .next (returnPC (callTo target s)) := by
      obtain ⟨x, rfl⟩ | ⟨n, rfl⟩ := hi
      · exact ⟨x, rfl⟩
      · exact ⟨_, rfl⟩
    obtain ⟨m, ev, h⟩ := returnPC_callTo target hw h1 h2
    rw [h] at hx
    exact ⟨_, hx, rfl⟩

end Sys2Proof.Claims
end

section
/-!
SUPPORT. What passes between two states as the table of 20_memory.md R91 counts it: the accesses
made, in order, and memory the same but where one of them writes. A rule for each access, a rule for
one list after another, and from them the accesses of each shared operation and of each meaning.
-/

namespace Sys2Proof.Claims

open Sys2Proof Sys2Proof.Machine

/-- From s to t exactly the accesses of the list are made, and a byte that none of them writes
stays. -/
def Performs (s t : State) (l : List Access) : Prop :=
  Accesses s t l ∧ ∀ y, (∀ x, .wr x ∈ l → x.toNat ≠ y) → t.mem.read y = s.mem.read y

section
variable {s u t : State} {l m : List Access}

theorem Performs.refl (s : State) : Performs s s [] :=
  ⟨⟨[], rfl, rfl⟩, fun _ _ => rfl⟩

theorem Performs.trans (h : Performs s u l) (h' : Performs u t m) : Performs s t (l ++ m) := by
  obtain ⟨⟨e, he, hl⟩, hmem⟩ := h
  obtain ⟨⟨e', he', hm⟩, hmem'⟩ := h'
  refine ⟨⟨e' ++ e, by rw [he', he, List.append_assoc], ?_⟩, fun y hy => ?_⟩
  · rw [List.reverse_append, List.filterMap_append, hl, hm]
  · rw [hmem' y fun x hx => hy x (List.mem_append_right l hx),
      hmem y fun x hx => hy x (List.mem_append_left m hx)]

/-- Only the events and memory count. -/
theorem Performs.of_eq (h : Performs s u l) (he : t.events = u.events) (hm : t.mem = u.mem) :
    Performs s t l := by
  unfold Performs Accesses
  rw [he, hm]
  exact h

theorem Performs.ite {c : Prop} [Decidable c] (h : Performs s u l) :
    Performs s (if c then u else s) (if c then l else []) := by
  split
  · exact h
  · exact .refl s

theorem ite_performs {c : Prop} [Decidable c] (hu : Performs s u l) (ht : Performs s t l) :
    Performs s (if c then u else t) l := by
  split
  · exact hu
  · exact ht

theorem next_performs (he : (.next u : Result) = .next t) (h : Performs s u l) :
    Performs s t l := by
  injection he with he
  exact he ▸ h

end

/-! ### One access -/

/-- An observed event is its access, a callback none. -/
theorem log_performs (s : State) (ev : Event) : Performs s (s.log ev) (accessOf ev).toList := by
  refine ⟨⟨[ev], rfl, ?_⟩, fun _ _ => rfl⟩
  cases h : accessOf ev <;> simp [h]

theorem memRead_performs (x : Word) (s : State) : Performs s (memRead x s).2 [.rd x] :=
  log_performs s (.memRead x _)

theorem memWrite_performs (x : Word) (v : Byte) (s : State) : Performs s (memWrite x v s) [.wr x] :=
  ⟨(log_performs s (.memWrite x v)).1, fun _ hy =>
    memWrite_read_other (hy x List.mem_cons_self).symm⟩

theorem ioRead_performs (x : Word) (s : State) : Performs s (ioRead x s).2 [.ioRd x] :=
  log_performs s (.ioRead x _)

theorem ioWrite_performs (x : Word) (v : Byte) (s : State) : Performs s (ioWrite x v s) [.ioWr x] :=
  log_performs s (.ioWrite x v)

/-- A hook call is no access. -/
theorem readSid_performs (s : State) : Performs s (readSid s).2 [] := by
  cases h : s.sidIn with
  | none => exact .of_eq (.refl s) (by simp [readSid, h]) rfl
  | some v =>
    exact .of_eq (log_performs s (.sidRead v)) (by simp [readSid, sidValue, h, State.log]) rfl

theorem setSOD_performs (v : Bool) (s : State) : Performs s (setSOD v s) [] :=
  log_performs s (.sodChanged v)

theorem setIE_performs (v : Bool) (s : State) : Performs s (setIE v s) [] :=
  log_performs s (.inteChanged v)

/-! ### The shared operations -/

theorem memRead16_performs (x : Word) (s : State) :
    Performs s (memRead16 x s).2 [.rd x, .rd (x + 1#16)] :=
  (memRead_performs x s).trans (memRead_performs _ _)

theorem memWrite16_performs (x v : Word) (s : State) :
    Performs s (memWrite16 x v s) [.wr x, .wr (x + 1#16)] :=
  (memWrite_performs x _ s).trans (memWrite_performs _ _ _)

theorem push16_performs (v : Word) (s : State) : Performs s (push16 v s) (pushAccesses s) :=
  ((memWrite_performs _ _ s).trans (memWrite_performs _ _ _)).of_eq rfl rfl

theorem callTo_performs (x : Word) (s : State) : Performs s (callTo x s) (pushAccesses s) :=
  push16_performs s.pc s

theorem pop16_performs (s : State) : Performs s (pop16 s).2 (popAccesses s) :=
  (memRead16_performs s.sp s).of_eq rfl rfl

theorem returnPC_performs (s : State) : Performs s (returnPC s) (popAccesses s) :=
  pop16_performs s

theorem callIf_performs (cc : Cond) (x : Word) (s : State) :
    Performs s (callIf cc x s) (takenPush cc.code s) := by
  rw [callIf, condHolds_eq]
  exact (callTo_performs x s).ite

theorem returnIf_performs (cc : Cond) (s : State) :
    Performs s (returnIf cc s) (takenPop cc.code s) := by
  rw [returnIf, condHolds_eq]
  exact (returnPC_performs s).ite

section
variable {s u : State} {l : List Access} (h : Performs s u l)
include h

theorem setReg_performs (r : Reg) (x : Byte) : Performs s (u.setReg r x) l := by
  cases r <;> exact h

theorem setPair_performs (rp : Pair) (x : Word) : Performs s (u.setPair rp x) l := by
  cases rp <;> exact h

end

theorem sim_performs (x : Byte) (s : State) :
    Performs s (simSod x (simLatch x (simMasks x s))) [] := by
  have masks : Performs s (simMasks x s) [] := ite_performs (.refl s) (.refl s)
  have latch : Performs s (simLatch x (simMasks x s)) [] := ite_performs masks masks
  exact ite_performs (latch.trans (setSOD_performs _ _)) latch

/-! ### The meanings -/

/-- By the operation a meaning makes its accesses with: what else it does, to registers and flags,
leaves the events and memory alone (`by exact` where the state before it must be known first). -/
theorem exec_performs {i : Instr} {s t : State} (he : exec i s = .next t) :
    Performs s t (dataAccesses i s) := by
  cases i with
  | xchg | cma | jmp | pchl | sphl | hlt | nop | nopAlias | jmpAlias | ldhi | ldsi
  | addR | adi | adcR | aci | subR | sui | sbbR | sbi | dad | daa | anaR | ani | xraR | xri
  | oraR | ori | cmpR | cpi | rlc | rrc | ral | rar | cmc | stc | dsub | arhl | rdel =>
    exact next_performs he (by exact .refl s)
  | ei | di => exact next_performs he (by exact setIE_performs _ s)
  | movRR | mviR => exact next_performs he (setReg_performs (.refl s) _ _)
  | inrR dst | dcrR dst => exact next_performs he (by exact setReg_performs (.refl s) dst _)
  | lxi => exact next_performs he (setPair_performs (.refl s) _ _)
  | inx rp | dcx rp => exact next_performs he (by exact setPair_performs (.refl s) rp _)
  | jnz | jz | jnc | jc | jpo | jpe | jp | jm | jnk | jk =>
    exact next_performs he (ite_performs (.refl s) (.refl s))
  | movRM => exact next_performs he (setReg_performs (memRead_performs _ s) _ _)
  | lda | addM | adcM | subM | sbbM | anaM | xraM | oraM | cmpM =>
    exact next_performs he (by exact memRead_performs _ s)
  | ldax rp => cases rp <;> exact next_performs he (by exact memRead_performs _ s)
  | movMR | mviM | sta => exact next_performs he (memWrite_performs _ _ s)
  | stax rp => cases rp <;> exact next_performs he (memWrite_performs _ _ s)
  | inrM | dcrM =>
    exact next_performs he (by exact (memRead_performs s.hl s).trans (memWrite_performs _ _ _))
  | lhld | lhlx => exact next_performs he (by exact memRead16_performs _ s)
  | shld | shlx => exact next_performs he (memWrite16_performs _ _ s)
  | xthl =>
    have rd := memRead16_performs s.sp s
    have wr := memWrite_performs (s.sp + 1#16) s.h (memRead16 s.sp s).2
    exact next_performs he (by exact rd.trans (wr.trans (memWrite_performs _ _ _)))
  | push | pushPsw => exact next_performs he (push16_performs _ s)
  | pop => exact next_performs he (setPair_performs (pop16_performs s) _ _)
  | popPsw => exact next_performs he (by exact pop16_performs s)
  | call | rst | callAlias => exact next_performs he (callTo_performs _ s)
  | rstv => exact next_performs he (callTo_performs _ s).ite
  | ret | retAlias => exact next_performs he (returnPC_performs s)
  | cnz | cz | cnc | cc | cpo | cpe | cp | cm => exact next_performs he (callIf_performs _ _ s)
  | rnz | rz | rnc | rc | rpo | rpe | rp | rm => exact next_performs he (returnIf_performs _ s)
  | inPort => exact next_performs he (by exact ioRead_performs _ s)
  | outPort => exact next_performs he (ioWrite_performs _ _ s)
  | rim => exact next_performs he (by exact readSid_performs s)
  | sim => exact next_performs he (sim_performs _ s)

/-! ### Interrupt entry and fetch -/

theorem enter_performs {src : Source} {s t : State} (he : enter src s = .next t) :
    Performs s t (pushAccesses s) := by
  have entered : Performs s (enterCommon s) [] := setIE_performs false s
  obtain ⟨-, rfl⟩ | ⟨-, rfl⟩ | ⟨-, rfl⟩ | ⟨-, rfl⟩ | ⟨-, _, _, -, -, rfl⟩ := enter_cases he
  · exact entered.trans (callTo_performs 0x0024#16 (enterCommon s))
  · exact entered.trans (callTo_performs 0x003C#16 (enterCommon s))
  · exact entered.trans (callTo_performs 0x0034#16 (enterCommon s))
  · exact entered.trans (callTo_performs 0x002C#16 (enterCommon s))
  · exact entered.trans ((log_performs _ (.acknowledge _)).trans (callTo_performs _ _))

/-- The reads of the first n bytes at PC. -/
def codeReads (s : State) (n : Nat) : List Access :=
  (List.range n).map fun k => .rd (s.pc + BitVec.ofNat 16 k)

/-- In u the first n bytes at the PC of s have been fetched. -/
def Fetched (s u : State) (n : Nat) : Prop :=
  Performs s u (codeReads s n) ∧ u.pc = s.pc + BitVec.ofNat 16 n

theorem fetched_zero (s : State) : Fetched s s 0 :=
  ⟨.refl s, (BitVec.add_zero _).symm⟩

/-- A fetch reads the byte at PC and moves PC past it. -/
theorem Fetched.fetch8 {s u : State} {n : Nat} (h : Fetched s u n) :
    Fetched s (fetch8 u).2 (n + 1) := by
  obtain ⟨hp, hpc⟩ := h
  have hsucc : codeReads s (n + 1) = codeReads s n ++ [.rd u.pc] := by
    rw [codeReads, List.range_succ, List.map_append, hpc]
    rfl
  refine ⟨hsucc ▸ hp.trans (memRead_performs u.pc u), ?_⟩
  show u.pc + 1#16 = _
  rw [hpc, BitVec.add_assoc, ← BitVec.ofNat_add]

/-- A fetch reads as many bytes as the opcode says, in address order. -/
theorem fetched_fetchInstr (s : State) :
    Fetched s (fetchInstr s).2 (opLength s.cfg.variant (fetch8 s).1).toNat := by
  have one := (fetched_zero s).fetch8
  cases h : opLength s.cfg.variant (fetch8 s).1 with
  | one => rw [fetchInstr_one h]; exact one
  | two => rw [fetchInstr_two h]; exact one.fetch8
  | three => rw [fetchInstr_three h]; exact one.fetch8.fetch8

/-! ### The obligations -/

/-- Settles O46: the fetch byte by byte, then the accesses of the meaning or of the entry. -/
theorem accessOrder : Obligations.AccessOrder := by
  unfold Obligations.AccessOrder
  refine ⟨fun s => ⟨_, rfl, ?_⟩, fun i s t he => (exec_performs he).1,
    fun src s t he => (enter_performs he).1⟩
  exact (fetched_fetchInstr s).1.1

/-- Settles O47: a byte that no access of the instruction writes stays. -/
theorem onlyWrittenBytesChange : Obligations.OnlyWrittenBytesChange := by
  unfold Obligations.OnlyWrittenBytesChange
  intro i s t y he hne
  by_contra hno
  exact hne ((exec_performs he).2 y fun x hx hxy => hno ⟨x, hxy, hx⟩)

end Sys2Proof.Claims
end

section
/-!
SUPPORT. What the opcode byte decides (30_encoding.md R121, R130): the length lists as the masks of
R121, and the twelve variant-dependent opcodes as fields xx yyy zzz. Outside those fields no row of
the opcode map asks for the variant.
-/

namespace Sys2Proof.Claims

open Sys2Proof Sys2Proof.Machine

/-! ### Lengths -/

theorem mem_twoBytes_iff : ∀ op : Byte, op ∈ twoBytes ↔
    op &&& 0xC7#8 = 0x06#8 ∨ op &&& 0xC7#8 = 0xC6#8 ∨ op = 0xD3#8 ∨ op = 0xDB#8 := by
  decide

theorem mem_threeBytes_iff : ∀ op : Byte, op ∈ threeBytes ↔
    op &&& 0xCF#8 = 0x01#8 ∨ op = 0x22#8 ∨ op = 0x2A#8 ∨ op = 0x32#8 ∨ op = 0x3A#8 ∨
      op = 0xC3#8 ∨ op = 0xCD#8 ∨ op &&& 0xC7#8 = 0xC2#8 ∨ op &&& 0xC7#8 = 0xC4#8 := by
  decide

/-- Settles O8: the masks of the decoder are the lists of R121, and after them both sides ask for the
same opcodes of the variant's class. -/
theorem lengthByOpcode : Obligations.LengthByOpcode := by
  unfold Obligations.LengthByOpcode
  intro v op
  simp only [opLength, lengthOf, ← mem_twoBytes_iff, ← mem_threeBytes_iff,
    apply_ite Length.toNat]
  cases v <;> rfl

/-! ### The rows of the opcode map that hold variant-dependent opcodes -/

section
variable {v w : Variant} {y z : BitVec 3}

theorem decodeNopRow_alike (h : y.toNat = 0) (lo : Byte) :
    decodeNopRow v y lo = decodeNopRow w y lo := by
  simp only [decodeNopRow, h]

theorem decodePopRow_alike (h : y.toNat ≠ 3) : decodePopRow v y = decodePopRow w y := by
  unfold decodePopRow
  split
  case h_2 h3 => exact absurd h3 h
  all_goals rfl

theorem decodeMiscRow_alike (h : y.toNat ≠ 1) (lo hi : Byte) :
    decodeMiscRow v y lo hi = decodeMiscRow w y lo hi := by
  unfold decodeMiscRow
  split
  case h_2 h1 => exact absurd h1 h
  all_goals rfl

theorem decodePushRow_alike (h3 : y.toNat ≠ 3) (h5 : y.toNat ≠ 5) (h7 : y.toNat ≠ 7) (a16 : Word) :
    decodePushRow v y a16 = decodePushRow w y a16 := by
  unfold decodePushRow
  split
  case h_2 h => exact absurd h h3
  case h_3 h => exact absurd h h5
  case h_4 h => exact absurd h h7
  all_goals rfl

theorem decode00_alike (h : z.toNat = 0 → y.toNat = 0) (lo hi : Byte) :
    decode00 v y z lo hi = decode00 w y z lo hi := by
  unfold decode00
  dsimp only
  split
  case h_1 hz => exact decodeNopRow_alike (h hz) lo
  all_goals rfl

theorem decode11_alike (h1 : z.toNat = 1 → y.toNat ≠ 3) (h3 : z.toNat = 3 → y.toNat ≠ 1)
    (h5 : z.toNat = 5 → y.toNat ≠ 3 ∧ y.toNat ≠ 5 ∧ y.toNat ≠ 7) (lo hi : Byte) :
    decode11 v y z lo hi = decode11 w y z lo hi := by
  unfold decode11
  split
  case h_2 hz => exact decodePopRow_alike (h1 hz)
  case h_4 hz => exact decodeMiscRow_alike (h3 hz) lo hi
  case h_6 hz =>
    obtain ⟨hy3, hy5, hy7⟩ := h5 hz
    exact decodePushRow_alike hy3 hy5 hy7 _
  all_goals rfl

end

/-! ### The twelve opcodes -/

/-- The fields of the twelve: 00yyy000 but NOP, 11011001, 11001011, and 11yyy101 for y = 3, 5, 7. -/
theorem not_mem_twelve_iff : ∀ op : Byte, op ∉ twelve ↔
    ((op.extractLsb' 6 2).toNat = 0 → (op.extractLsb' 0 3).toNat = 0 →
      (op.extractLsb' 3 3).toNat = 0) ∧
    ((op.extractLsb' 6 2).toNat = 3 →
      ((op.extractLsb' 0 3).toNat = 1 → (op.extractLsb' 3 3).toNat ≠ 3) ∧
      ((op.extractLsb' 0 3).toNat = 3 → (op.extractLsb' 3 3).toNat ≠ 1) ∧
      ((op.extractLsb' 0 3).toNat = 5 → (op.extractLsb' 3 3).toNat ≠ 3 ∧
        (op.extractLsb' 3 3).toNat ≠ 5 ∧ (op.extractLsb' 3 3).toNat ≠ 7)) := by
  decide

/-- The last row of a match on a 2-bit field. -/
theorem toNat_eq_three {x : BitVec 2} (h0 : x.toNat ≠ 0) (h1 : x.toNat ≠ 1) (h2 : x.toNat ≠ 2) :
    x.toNat = 3 := by
  omega

/-- Any other opcode decodes alike on every variant, whatever its operand bytes. -/
theorem decodeOp_alike {op : Byte} (h : op ∉ twelve) (v w : Variant) (lo hi : Byte) :
    decodeOp v op lo hi = decodeOp w op lo hi := by
  obtain ⟨h00, h11⟩ := (not_mem_twelve_iff op).1 h
  unfold decodeOp
  dsimp only
  split
  case h_1 hx => exact decode00_alike (h00 hx) lo hi
  case h_2 => rfl
  case h_3 => rfl
  case h_4 hx0 hx1 hx2 =>
    obtain ⟨h1, h3, h5⟩ := h11 (toNat_eq_three hx0 hx1 hx2)
    exact decode11_alike h1 h3 h5 lo hi

theorem decodeOp_differs_of_mem_twelve :
    ∀ op ∈ twelve, decodeOp .i8080 op 0x00#8 0x00#8 ≠ decodeOp .i8085a op 0x00#8 0x00#8 := by
  decide

/-- Settles O9: outside the twelve the decoder does not ask for the variant, each of the twelve
differs already on zero operand bytes, and within the 8080 class the name has no part. -/
theorem twelveVariantDependentOpcodes : Obligations.TwelveVariantDependentOpcodes := by
  unfold Obligations.TwelveVariantDependentOpcodes
  refine ⟨fun op => ⟨?_, fun h => ⟨_, _, decodeOp_differs_of_mem_twelve op h⟩⟩,
    decodeOp_congr rfl, fun lo hi =>
      ⟨rfl, rfl, rfl, rfl, rfl, rfl, rfl, rfl, rfl, rfl, rfl, rfl⟩⟩
  rintro ⟨lo, hi, hne⟩
  by_contra h
  exact hne (decodeOp_alike h ..)

end Sys2Proof.Claims
end

section
/-!
SUPPORT. The data transfer group (40_data_transfer.md, with SPHL, LDHI, LDSI, SHLX and LHLX): what a
load leaves in a register or in HL, where a store lands, and what a pair holds once it is written.
-/

namespace Sys2Proof.Machine

theorem setDE_de (s : State) (v : Word) : (s.setDE v).de = v := word_of_hi_lo v

theorem setHL_hl (s : State) (v : Word) : (s.setHL v).hl = v := word_of_hi_lo v

/-- A zero-extended offset wraps modulo 65536 (R413, R414). -/
theorem add_zeroExtend_toNat (x : Word) (v : Byte) :
    (x + v.setWidth 16).toNat = (x.toNat + v.toNat) % 65536 := by
  rw [BitVec.toNat_add, BitVec.toNat_setWidth_of_le (by decide)]

/-- The host sees the two bytes of HL as L at the address and H after it. -/
theorem memWrite16_hl_frame (x : Word) (s : State) :
    memWrite16 x s.hl s = { s with
      mem := (memWrite16 x s.hl s).mem
      events := .memWrite (x + 1#16) s.h :: .memWrite x s.l :: s.events } := by
  have h := memWrite16_frame x s.hl s
  rwa [hi_of, lo_of] at h

end Sys2Proof.Machine

namespace Sys2Proof.Claims

open Sys2Proof Sys2Proof.Machine

theorem stored_memWrite (x : Word) (v : Byte) (s : State) : Stored s (memWrite x v s) x v :=
  stored_of rfl rfl rfl

theorem pairSet_setPair (s : State) (rp : Pair) (v : Word) : PairSet s (s.setPair rp v) rp v :=
  pairSet_of (fun _ => rfl) (setPair_a ..)

theorem onlyPairs_setPair (s : State) (rp : Pair) (v : Word) : OnlyPairs s (s.setPair rp v) := by
  cases rp <;> rfl

/-- HL set to what a 16-bit read answers: the two bytes loaded, and the frame of LHLD and LHLX. -/
theorem loaded2_setHL_memRead16 {s t : State} {x : Word}
    (ht : t = (memRead16 x s).2.setHL (memRead16 x s).1) :
    Loaded2 s x t.hl t.draws ∧ t = { s with
      h := t.h, l := t.l, draws := t.draws, events := loaded2Events x t.hl ++ s.events } := by
  have hhl : t.hl = (memRead16 x s).1 := by rw [ht, setHL_hl]
  have hdraws : t.draws = (memRead16 x s).2.draws := by rw [ht, setHL_draws]
  rw [hhl, hdraws]
  refine ⟨loaded2_memRead16 x s, ?_⟩
  rw [← memRead16_loaded2Events, ht]
  rfl

/-- Settles O26: each load is one register write, and the M, direct and indirect forms put the one
read before it, so MOV H,M and MOV L,M read at the old HL. -/
theorem loadsOfRegisters : Obligations.LoadsOfRegisters := by
  unfold Obligations.LoadsOfRegisters
  refine ⟨⟨fun _ _ => rfl, fun _ => rfl, fun _ _ => rfl,
      fun dst r s => ⟨_, rfl, regSet_setReg .., onlyRegs_setReg ..⟩,
      fun dst v s => ⟨_, rfl, regSet_setReg .., onlyRegs_setReg ..⟩,
      fun dst s => ⟨_, _, _, rfl, loaded_memRead s.hl s, ?_, ?_⟩⟩,
    fun _ => rfl, rfl, rfl, fun s =>
      ⟨fun x => ⟨_, rfl, loaded_memRead x s, rfl⟩, ⟨_, rfl, loaded_memRead s.bc s, rfl⟩,
        ⟨_, rfl, loaded_memRead s.de s, rfl⟩⟩⟩
  · exact regSet_setReg (memRead s.hl s).2 dst _
  · exact onlyRegs_setReg (memRead s.hl s).2 dst _

/-- Settles O27: each store is one `memWrite`, of a value and at an address read before it. -/
theorem storesOfOneByte : Obligations.StoresOfOneByte := by
  unfold Obligations.StoresOfOneByte
  refine ⟨fun r => ?_, fun _ => rfl, fun _ => rfl, rfl, rfl, fun s =>
    ⟨fun r => ⟨_, rfl, stored_memWrite s.hl (s.reg r) s, rfl⟩,
      fun v => ⟨_, rfl, stored_memWrite s.hl v s, rfl⟩,
      fun x => ⟨_, rfl, stored_memWrite x s.a s, rfl⟩,
      ⟨_, rfl, stored_memWrite s.bc s.a s, rfl⟩,
      ⟨_, rfl, stored_memWrite s.de s.a s, rfl⟩⟩⟩
  cases r <;> rfl

/-- Settles O28: LHLD and LHLX are one 16-bit read into HL, SHLD and SHLX one 16-bit write of HL, at
the operand or at DE. -/
theorem sixteenBitTransfers : Obligations.SixteenBitTransfers := by
  unfold Obligations.SixteenBitTransfers
  exact ⟨fun _ => rfl, fun _ => rfl, rfl, rfl, fun s =>
    ⟨fun x => ⟨_, rfl, loaded2_setHL_memRead16 rfl⟩, ⟨_, rfl, loaded2_setHL_memRead16 rfl⟩,
      fun x => ⟨_, rfl, stored2_memWrite16 x s.hl s, memWrite16_hl_frame x s⟩,
      ⟨_, rfl, stored2_memWrite16 s.de s.hl s, memWrite16_hl_frame s.de s⟩⟩⟩

/-- Settles O29: each instruction writes one pair (XCHG two), and a written pair reads back; LDHI and
LDSI add an offset that is not sign-extended. -/
theorem pairTransfers : Obligations.PairTransfers := by
  unfold Obligations.PairTransfers
  refine ⟨fun _ _ => rfl, rfl, rfl, fun _ => rfl, fun _ => rfl, fun s =>
    ⟨fun rp v => ⟨_, rfl, pairSet_setPair s rp v, onlyPairs_setPair s rp v, setPair_f ..,
        setPair_draws ..⟩,
      ⟨_, rfl, rfl, rfl, rfl⟩, rfl, fun v => ⟨_, rfl, ?_, rfl⟩, fun v => ⟨_, rfl, ?_, rfl⟩⟩⟩
  · rw [setDE_de, add_zeroExtend_toNat]
  · rw [setDE_de, add_zeroExtend_toNat]

end Sys2Proof.Claims
end

section
/-!
SUPPORT. The arithmetic group (41_arithmetic.md): the tables behind SetSZP, the correction of DAA as
arithmetic on numbers, the three forms of an ALU instruction as one operation on an operand, and
what INR and DCR leave, in a register and in memory.
-/

namespace Sys2Proof.Machine

/-! ### Bytes and words as numbers -/

theorem and_0F_eq_iff (x : Byte) {k : Nat} (hk : k < 256) :
    x &&& 0x0F#8 = BitVec.ofNat 8 k ↔ x.toNat % 16 = k := by
  rw [← BitVec.toNat_inj, and_0F_toNat, BitVec.toNat_ofNat, Nat.mod_eq_of_lt hk]

theorem byte_succ_toNat (x : Byte) : (x + 1#8).toNat = (x.toNat + 1) % 256 := by
  rw [BitVec.toNat_add]
  rfl

theorem byte_pred_toNat (x : Byte) : (x - 1#8).toNat = (x.toNat + 255) % 256 := by
  rw [BitVec.toNat_sub, Nat.add_comm]
  rfl

theorem ofNat_toNat_add (x : Word) (k : Nat) :
    BitVec.ofNat 16 (x.toNat + k) = x + BitVec.ofNat 16 k := by
  rw [BitVec.ofNat_add, BitVec.ofNat_toNat, BitVec.setWidth_eq]

theorem ofNat_toNat_pred (x : Word) : BitVec.ofNat 16 (x.toNat + 65535) = x - 1#16 := by
  rw [ofNat_toNat_add]
  bv_omega

/-! ### The tables of 10_state.md R54 -/

theorem zs_toNat (v : Byte) :
    (zs v).toNat = (if v.toNat = 0 then 0x40 else 0) + (if v.toNat ≥ 128 then 0x80 else 0) := by
  revert v
  decide

theorem zsp_toNat (v : Byte) :
    (zsp v).toNat = (zs v).toNat + (if popcount v % 2 = 0 then 0x04 else 0) := by
  revert v
  decide

/-! ### DAA -/

/-- With the two conditions of R224 named, the correction is 6 and 0x60, each or neither, and only
the 6 reaches bit 3. -/
theorem daa8_spec {x : Byte} {cy ac low high : Bool}
    (hlow : low = (ac || decide (x.toNat % 16 > 9)))
    (hhigh : high = (cy || decide (x.toNat > 0x99))) :
    (daa8 x cy ac).res.toNat = (x.toNat + 6 * low.toNat + 0x60 * high.toNat) % 256 ∧
    (daa8 x cy ac).cy = high ∧
    (daa8 x cy ac).ac = decide (x.toNat % 16 + 6 * low.toNat ≥ 16) := by
  have hl : (ac = true ∨ x.toNat % 16 > 9) ↔ low = true := by simp [hlow]
  have hh : (cy = true ∨ x.toNat > 0x99) ↔ high = true := by simp [hhigh]
  simp only [daa8, and_0F_toNat, hl, hh]
  generalize hcorr : (if low = true then 0x06#8 else 0x00#8) |||
    (if high = true then 0x60#8 else 0x00#8) = corr
  have hsum : corr.toNat = 6 * low.toNat + 0x60 * high.toNat := by
    rw [← hcorr]
    cases low <;> cases high <;> rfl
  have hlow1 := Bool.toNat_le low
  refine ⟨?_, hhigh.symm, decide_eq_decide.2 ?_⟩
  · rw [BitVec.toNat_add, hsum, Nat.add_assoc]
  · rw [hsum]
    omega

/-! ### INR and DCR -/

/-- What INR and DCR do to F: S, Z, P from the result, AC as given, then FixF. -/
def countFlags (res : Byte) (ac : Bool) (s : State) : State :=
  fixF { s with f := putAC ac (setSZP res s.f) }

theorem inrFlags_eq (old : Byte) (s : State) :
    inrFlags old s = countFlags (old + 1#8) (decide (old.toNat % 16 = 15)) s := by
  simp only [inrFlags, countFlags, and_0F_eq_iff old (k := 15) (by decide)]

theorem dcrFlags_eq (old : Byte) (s : State) :
    dcrFlags old s = countFlags (old - 1#8) (decide (old.toNat % 16 ≠ 0)) s := by
  simp only [dcrFlags, countFlags, ne_eq, and_0F_eq_iff old (k := 0) (by decide)]

end Sys2Proof.Machine

namespace Sys2Proof.Claims

open Sys2Proof Sys2Proof.Machine

/-! ### SetSZP -/

theorem resultFlags_setSZP (res f : Byte) : ResultFlags (setSZP res f) res := by
  refine ⟨flagS_setSZP res f, (flagZ_setSZP res f).trans ?_, (flagP_setSZP res f).trans ?_⟩
  · exact decide_eq_decide.2 BitVec.toNat_inj.symm
  · exact (evenOnes_eq res).symm

/-- Settles O14: the bits of F one by one, then the two tables. -/
theorem setSZPFollowsTheTable : Obligations.SetSZPFollowsTheTable := by
  unfold Obligations.SetSZPFollowsTheTable
  refine fun res f => ⟨resultFlags_setSZP res f, fun k hk h7 h6 h2 => ?_, zs_toNat res, ?_⟩
  · obtain rfl | rfl | rfl | rfl | rfl : k = 0 ∨ k = 1 ∨ k = 3 ∨ k = 4 ∨ k = 5 := by omega
    · exact flagCY_setSZP res f
    · exact flagV_setSZP res f
    · exact flagX3_setSZP res f
    · exact flagAC_setSZP res f
    · exact flagK_setSZP res f
  · simp only [evenOnes_eq, decide_eq_true_eq, zsp_toNat]

/-! ### The forms of the ALU group -/

/-- The three forms of an ALU instruction, from one operation on the operand: what holds of the
operation in every state holds of each form, of the M form in the state its operand is read in. That
the forms are encoded so and mean that operation is the model's text, read off by `rfl`. -/
theorem aluForms_of {ooo : BitVec 3} {regF : Reg → Instr} {memF : Instr} {immF : Byte → Instr}
    {P : State → Byte → State → Prop} (op : Byte → State → State) (hop : ∀ s v, P s v (op v s))
    (encR : ∀ r, encode (regF r) = [0b10#2 ++ ooo ++ r.code] := by exact fun _ => rfl)
    (encM : encode memF = [0b10#2 ++ ooo ++ 0b110#3] := by rfl)
    (encI : ∀ d8, encode (immF d8) = [0b11#2 ++ ooo ++ 0b110#3, d8] := by exact fun _ => rfl)
    (execR : ∀ r s, exec (regF r) s = .next (op (s.reg r) s) := by exact fun _ _ => rfl)
    (execM : ∀ s, exec memF s = .next (op (readM s).1 (readM s).2) := by exact fun _ => rfl)
    (execI : ∀ d8 s, exec (immF d8) s = .next (op d8 s) := by exact fun _ _ => rfl) :
    AluForms ooo regF memF immF P :=
  ⟨encR, encM, encI, fun r s => ⟨_, execR r s, hop s _⟩,
    fun s => ⟨_, _, _, execM s, loaded_memRead s.hl s, hop _ _⟩,
    fun d8 s => ⟨_, execI d8 s, hop s d8⟩⟩

/-- Settles O15: ADD is `addA` without a carry in, ADC with CY. -/
theorem addAndAdcForms : Obligations.AddAndAdcForms := by
  unfold Obligations.AddAndAdcForms
  constructor
  · exact aluForms_of (fun v s => addA v false s) (addResult_addA false)
  · exact aluForms_of (fun v s => addA v (flagCY s.f) s) (fun s => addResult_addA (flagCY s.f) s)

theorem subResult_subA (c : Bool) (s : State) (v : Byte) : SubResult c s v (subA v c s) :=
  ⟨subFlags_subA c s v, undocAfter_fixF rfl rfl, rfl⟩

/-- Settles O16: SUB is `subA` without a borrow in, SBB with CY. -/
theorem subAndSbbForms : Obligations.SubAndSbbForms := by
  unfold Obligations.SubAndSbbForms
  constructor
  · exact aluForms_of (fun v s => subA v false s) (subResult_subA false)
  · exact aluForms_of (fun v s => subA v (flagCY s.f) s) (fun s => subResult_subA (flagCY s.f) s)

/-! ### INR and DCR -/

/-- A register counted: it holds the result, the flags are those of the result, every other register
and field is kept. -/
theorem countFlags_setReg (s : State) (r : Reg) (res : Byte) (ac : Bool) :
    ∃ t, countFlags res ac (s.setReg r res) = t ∧ t.reg r = res ∧
      (∀ q, q ≠ r → t.reg q = s.reg q) ∧ CountFlags s t (t.reg r) ac ∧
      t = { s with
        a := t.a, b := t.b, c := t.c, d := t.d, e := t.e, h := t.h, l := t.l, f := t.f
        draws := t.draws } := by
  have hreg : ∀ q, (countFlags res ac (s.setReg r res)).reg q = (s.setReg r res).reg q := by
    intro q
    cases q <;> rfl
  obtain ⟨hsame, hother⟩ := regSet_setReg s r res
  refine ⟨_, rfl, (hreg r).trans hsame, fun q hq => (hreg q).trans (hother q hq), ?_, ?_⟩
  · rw [hreg, hsame]
    exact countFlags_fixF (setReg_cfg ..) (setReg_draws ..) (by rw [setReg_f])
  · cases r <;> rfl

/-- The M byte counted: read, the result stored at the same address, the flags those of the result,
every register kept. -/
theorem countFlags_writeM (s : State) (res : Byte) (ac : Bool) :
    ∃ t, countFlags res ac (writeM res (readM s).2) = t ∧ Stored s t s.hl res ∧
      CountFlags { s with draws := (readM s).2.draws } t res ac ∧
      t = { s with
        f := t.f, mem := t.mem, draws := t.draws
        events := .memWrite s.hl res :: .memRead s.hl (readM s).1 :: s.events } :=
  ⟨_, rfl, stored_of (u := (readM s).2) rfl rfl rfl, countFlags_fixF rfl rfl rfl, rfl⟩

/-- Settles O19: each form reads the old value, writes it back plus or minus one and counts. -/
theorem inrAndDcrForms : Obligations.InrAndDcrForms := by
  unfold Obligations.InrAndDcrForms
  refine ⟨⟨fun _ => rfl, rfl, fun r s => ?_, fun s => ?_⟩,
    ⟨fun _ => rfl, rfl, fun r s => ?_, fun s => ?_⟩⟩
  · obtain ⟨t, ht, hres, h⟩ := countFlags_setReg s r (s.reg r + 1#8)
      (decide ((s.reg r).toNat % 16 = 15))
    exact ⟨t, ht ▸ congrArg _ (inrFlags_eq ..), hres ▸ byte_succ_toNat _, h⟩
  · obtain ⟨t, ht, h⟩ := countFlags_writeM s ((readM s).1 + 1#8)
      (decide ((readM s).1.toNat % 16 = 15))
    exact ⟨t, _, _, _, ht ▸ congrArg _ (inrFlags_eq ..), loaded_memRead s.hl s,
      byte_succ_toNat _, h⟩
  · obtain ⟨t, ht, hres, h⟩ := countFlags_setReg s r (s.reg r - 1#8)
      (decide ((s.reg r).toNat % 16 ≠ 0))
    exact ⟨t, ht ▸ congrArg _ (dcrFlags_eq ..), hres ▸ byte_pred_toNat _, h⟩
  · obtain ⟨t, ht, h⟩ := countFlags_writeM s ((readM s).1 - 1#8)
      (decide ((readM s).1.toNat % 16 ≠ 0))
    exact ⟨t, _, _, _, ht ▸ congrArg _ (dcrFlags_eq ..), loaded_memRead s.hl s,
      byte_pred_toNat _, h⟩

/-! ### INX, DCX and DAD -/

/-- FixF after a pair is written: the pair holds the value, every documented flag is kept. -/
theorem fixF_setPair (s : State) (rp : Pair) (v : Word) :
    PairSet s (fixF (s.setPair rp v)) rp v ∧
    (fixF (s.setPair rp v)).f.getLsbD 0 = s.f.getLsbD 0 ∧ KeepsSZAP s (fixF (s.setPair rp v)) ∧
    UndocAfter s (fixF (s.setPair rp v)) ∧ OnlyPairs s (fixF (s.setPair rp v)) := by
  obtain ⟨hcy, hszap, hundoc⟩ := keepsFlags_fixF (setPair_cfg s rp v) (setPair_draws ..)
    (setPair_f ..)
  refine ⟨pairSet_of (fun q => ?_) (setPair_a ..), hcy, hszap, hundoc, ?_⟩
  · cases q <;> rfl
  · cases rp <;> rfl

/-- Settles O20: INX and DCX write one pair, by a sum modulo 65536, and end in FixF. -/
theorem inxDcxPairs : Obligations.InxDcxPairs := by
  unfold Obligations.InxDcxPairs
  refine ⟨fun _ => rfl, fun _ => rfl, fun rp s => ⟨⟨_, rfl, ?_⟩, ⟨_, rfl, ?_⟩⟩⟩
  · rw [ofNat_toNat_add]
    exact fixF_setPair s rp _
  · rw [ofNat_toNat_pred]
    exact fixF_setPair s rp _

/-- Settles O21: HL is written with the sum, CY with its carry, and no other flag. -/
theorem dadPairs : Obligations.DadPairs := by
  unfold Obligations.DadPairs
  refine ⟨fun _ => rfl, fun rp s => ⟨_, rfl, ?_, carryOnly_fixF rfl rfl rfl, rfl⟩⟩
  exact (congrArg BitVec.toNat (setHL_hl s _)).trans (BitVec.toNat_ofNat ..)

/-! ### DAA -/

/-- Settles O22: DAA puts the corrected byte in A with the flags of any ALU result. -/
theorem daaCorrection : Obligations.DaaCorrection := by
  unfold Obligations.DaaCorrection
  refine ⟨rfl, fun s => ?_⟩
  obtain ⟨hres, hcy, hac⟩ := daa8_spec (x := s.a) (cy := flagCY s.f) (ac := flagAC s.f) rfl rfl
  obtain ⟨-, -, hAC, -, hCY⟩ := aluToA_flags (daa8 s.a (flagCY s.f) (flagAC s.f)) s
  exact ⟨_, _, _, rfl, rfl, rfl, hres, resultFlags_aluToA _ s, hCY.trans hcy, hAC.trans hac,
    undocAfter_fixF rfl rfl, rfl⟩

end Sys2Proof.Claims
end

section
/-!
SUPPORT. The logical group (42_logical.md): the flags of a bitwise result, the comparison as the
flags of a difference, and a rotate as a shift that takes one bit in.
-/

namespace Sys2Proof.Machine

/-! ### Comparison -/

theorem sub8_res_eq_zero_iff (x y : Byte) : (sub8 x y false).res = 0x00#8 ↔ x = y := by
  obtain ⟨hdiff, -⟩ := sub8_spec x y false
  have hx := x.isLt
  have hy := y.isLt
  rw [← BitVec.toNat_inj, ← BitVec.toNat_inj, hdiff, BitVec.toNat_ofNat, Bool.toNat_false]
  omega

/-- CMP leaves in F what SUB does (R259). -/
theorem cmpA_f (v : Byte) (s : State) : (cmpA v s).f = (subA v false s).f := rfl

/-! ### A shift that takes one bit in -/

theorem shiftLeft_or_bit (x : Byte) (c : Bool) {k : Nat} (hk : k < 8) :
    ((x <<< 1) ||| BitVec.setWidth 8 (BitVec.ofBool c)).getLsbD k =
      if k = 0 then c else x.getLsbD (k - 1) := by
  cases k with
  | zero => simp
  | succ j => simp [hk, BitVec.getLsbD_eq_getElem, Nat.lt_of_succ_lt hk]

theorem shiftRight_or_bit (x : Byte) (c : Bool) {k : Nat} (hk : k < 8) :
    ((x >>> 1) ||| (BitVec.setWidth 8 (BitVec.ofBool c) <<< 7)).getLsbD k =
      if k = 7 then c else x.getLsbD (k + 1) := by
  obtain rfl | hk7 : k = 7 ∨ k < 7 := by omega
  · simp
  · simp [hk, hk7, hk7.ne, Nat.add_comm 1 k]

/-- With bit 7 taken in below, the shift is a rotation of the eight places. -/
theorem shiftLeft_or_bit7 (x : Byte) {k : Nat} (hk : k < 8) :
    ((x <<< 1) ||| BitVec.setWidth 8 (BitVec.ofBool (x.getLsbD 7))).getLsbD k =
      x.getLsbD ((k + 7) % 8) := by
  rw [shiftLeft_or_bit x _ hk, ← apply_ite x.getLsbD]
  congr 1
  split <;> omega

/-- With bit 0 taken in above, the shift is a rotation of the eight places. -/
theorem shiftRight_or_bit0 (x : Byte) {k : Nat} (hk : k < 8) :
    ((x >>> 1) ||| (BitVec.setWidth 8 (BitVec.ofBool (x.getLsbD 0)) <<< 7)).getLsbD k =
      x.getLsbD ((k + 1) % 8) := by
  rw [shiftRight_or_bit x _ hk, ← apply_ite x.getLsbD]
  congr 1
  split <;> omega

end Sys2Proof.Machine

namespace Sys2Proof.Claims

open Sys2Proof Sys2Proof.Machine

/-! ### CMP -/

theorem cmpResult_cmpA (s : State) (v : Byte) : CmpResult s v (cmpA v s) := by
  obtain ⟨-, hZ, -⟩ := aluToA_flags (sub8 s.a v false) s
  refine ⟨⟨_, subFlags_subA false s v⟩, ?_, undocAfter_fixF rfl rfl, rfl⟩
  exact (cmpA_f v s ▸ hZ).trans (decide_eq_decide.2 (sub8_res_eq_zero_iff s.a v))

/-- Settles O18: the forms of CMP are `cmpA` of the operand. -/
theorem cmpForms : Obligations.CmpForms := by
  unfold Obligations.CmpForms
  exact aluForms_of cmpA cmpResult_cmpA

/-! ### ANA, XRA and ORA -/

theorem anaCarry_eq (s : State) (v : Byte) : andAC s.cfg.variant s.a v = anaCarry s v := by
  unfold anaCarry
  cases s.cfg.variant
  · exact BitVec.getLsbD_or
  · exact BitVec.getLsbD_or
  · rfl

/-- A bitwise result put into A with CY clear, from what the operation does to each bit. -/
theorem logicResult_aluToA {op : Bool → Bool → Bool} {ac : State → Byte → Bool} {s : State}
    {v res : Byte} {c : Bool} (hres : ∀ k, res.getLsbD k = op (s.a.getLsbD k) (v.getLsbD k))
    (hc : c = ac s v) : LogicResult op ac s v (aluToA { res := res, cy := false, ac := c } s) := by
  obtain ⟨-, -, hAC, -, hCY⟩ := aluToA_flags { res := res, cy := false, ac := c } s
  exact ⟨fun k _ => hres k, resultFlags_aluToA _ s, hCY, hAC.trans hc,
    undocAfter_fixF rfl rfl, rfl⟩

/-- Settles O17: the three operations bit by bit, AC of ANA by the variant. -/
theorem logicForms : Obligations.LogicForms := by
  unfold Obligations.LogicForms
  refine ⟨aluForms_of anaA fun s v => ?_, aluForms_of xraA fun s v => ?_,
    aluForms_of oraA fun s v => ?_⟩
  · exact logicResult_aluToA (fun _ => BitVec.getLsbD_and) (anaCarry_eq s v)
  · exact logicResult_aluToA (fun _ => BitVec.getLsbD_xor) rfl
  · exact logicResult_aluToA (fun _ => BitVec.getLsbD_or) rfl

/-! ### Rotates -/

/-- A rotate, from the byte and the carry that it writes: what remains is the byte bit by bit. -/
theorem rotated_of {i : Instr} {op : Byte} {bit : State → Nat → Bool} {cy : State → Bool}
    (res : State → Byte) (hbit : ∀ s k, k < 8 → (res s).getLsbD k = bit s k)
    (enc : encode i = [op] := by rfl)
    (meaning : ∀ s, exec i s = .next (rotateA (res s) (cy s) s) := by exact fun _ => rfl) :
    Rotated i op bit cy :=
  ⟨enc, fun s => ⟨_, meaning s, hbit s, carryOnly_fixF rfl rfl rfl, rfl⟩⟩

/-- Settles O24: each rotate is a shift that takes in the bit at the other end, or CY. -/
theorem rotatesAndCarry : Obligations.RotatesAndCarry := by
  unfold Obligations.RotatesAndCarry
  refine ⟨rotated_of _ fun s _ => shiftLeft_or_bit7 s.a,
    rotated_of _ fun s _ => shiftRight_or_bit0 s.a,
    rotated_of _ fun s _ => shiftLeft_or_bit s.a (flagCY s.f),
    rotated_of _ fun s _ => shiftRight_or_bit s.a (flagCY s.f), rfl, rfl, rfl,
    fun s => ⟨?_, ?_, ?_⟩⟩
  · exact ⟨_, rfl, BitVec.toNat_not, rfl⟩
  · exact ⟨_, rfl, carryOnly_fixF rfl rfl rfl, rfl⟩
  · exact ⟨_, rfl, carryOnly_fixF rfl rfl rfl, rfl⟩

end Sys2Proof.Claims
end

section
/-!
SUPPORT. The branch group (43_branch.md): the conditional jumps, calls and returns as one instruction
for each condition code (R124), and what that instruction does when its condition is met or not.
-/

namespace Sys2Proof.Machine

/-- The vector of RST n (R328). -/
theorem rstVector_eq : ∀ n : BitVec 3, n.setWidth 16 <<< 3 = BitVec.ofNat 16 (8 * n.toNat) := by
  decide

/-! ### The conditional instruction of a condition code -/

theorem encode_decodeJcc (cc : Cond) (x : Word) :
    encode (decodeJcc cc.code x) = bytes3 (opXYZ 0b11#2 cc.code 0b010#3) x := by
  cases cc <;> rfl

theorem encode_decodeCcc (cc : Cond) (x : Word) :
    encode (decodeCcc cc.code x) = bytes3 (opXYZ 0b11#2 cc.code 0b100#3) x := by
  cases cc <;> rfl

theorem encode_decodeRcc (cc : Cond) :
    encode (decodeRcc cc.code) = [opXYZ 0b11#2 cc.code 0b000#3] := by
  cases cc <;> rfl

theorem exec_decodeJcc (cc : Cond) (x : Word) (s : State) :
    exec (decodeJcc cc.code x) s = .next (jumpIf cc x s) := by
  cases cc <;> rfl

theorem exec_decodeCcc (cc : Cond) (x : Word) (s : State) :
    exec (decodeCcc cc.code x) s = .next (callIf cc x s) := by
  cases cc <;> rfl

theorem exec_decodeRcc (cc : Cond) (s : State) :
    exec (decodeRcc cc.code) s = .next (returnIf cc s) := by
  cases cc <;> rfl

end Sys2Proof.Machine

namespace Sys2Proof.Claims

open Sys2Proof Sys2Proof.Machine

/-! ### The lists of conditional instructions, by condition code -/

/-- The condition codes in the order of R124. -/
def conds : List Cond := [.nz, .z, .nc, .c, .po, .pe, .p, .m]

theorem jumps_eq : jumps = conds.map fun cc => (cc.code, decodeJcc cc.code) := rfl

theorem calls_eq : calls = conds.map fun cc => (cc.code, decodeCcc cc.code) := rfl

theorem returns_eq : returns = conds.map fun cc => (cc.code, decodeRcc cc.code) := rfl

/-- What holds of the instruction of every condition code holds of every member of such a list. -/
theorem forall_mem_of_conds {α : Type} {l : List α} {f : Cond → α} (hl : l = conds.map f)
    {P : α → Prop} (h : ∀ cc, P (f cc)) : ∀ p ∈ l, P p := by
  rw [hl]
  exact List.forall_mem_map.2 fun cc _ => h cc

/-! ### The condition met, and not met -/

theorem jumpIf_eq (cc : Cond) (x : Word) (s : State) :
    jumpIf cc x s = if condMet cc.code s.f then { s with pc := x } else s := by
  rw [jumpIf, condHolds_eq]

/-- A choice between u and s, by what holds of u and by the condition. -/
theorem ite_taken_or_same (P : State → Prop) {u : State} (h : P u) (s : State) (c : Bool) :
    (c = true → P (if c then u else s)) ∧ (c = false → (if c then u else s) = s) := by
  cases c with
  | true => exact ⟨fun _ => h, nofun⟩
  | false => exact ⟨nofun, fun _ => rfl⟩

theorem callIf_called (cc : Cond) (x : Word) (s : State) :
    (condMet cc.code s.f = true → Called s (callIf cc x s) x) ∧
      (condMet cc.code s.f = false → callIf cc x s = s) := by
  rw [callIf, condHolds_eq]
  exact ite_taken_or_same (Called s · x) (called_callTo s x) s _

theorem returnIf_returned (cc : Cond) (s : State) :
    (condMet cc.code s.f = true → Returned s (returnIf cc s)) ∧
      (condMet cc.code s.f = false → returnIf cc s = s) := by
  rw [returnIf, condHolds_eq]
  exact ite_taken_or_same (Returned s) (returned_returnPC s) s _

end Sys2Proof.Claims

/-! The names `jumps`, `calls` and `returns` are those of the model's lists in `Sys2Proof.Claims`, so
the theorems stand in a namespace of their own. -/
namespace Sys2Proof.Claims.Branch

open Sys2Proof Sys2Proof.Machine

/-- Settles O30: a conditional jump is `jumpIf` of the condition of its code. -/
theorem jumps : Obligations.Jumps := by
  unfold Obligations.Jumps
  refine ⟨fun _ => rfl, rfl, forall_mem_of_conds jumps_eq encode_decodeJcc, fun s =>
    ⟨fun _ => rfl, rfl, forall_mem_of_conds jumps_eq fun cc x => ?_⟩⟩
  exact (exec_decodeJcc cc x s).trans (congrArg _ (jumpIf_eq cc x s))

/-- Settles O31: CALL and RST are `callTo`, a conditional call is `callIf` of the condition of its
code. -/
theorem calls : Obligations.Calls := by
  unfold Obligations.Calls
  refine ⟨fun _ => rfl, fun _ => rfl, forall_mem_of_conds calls_eq encode_decodeCcc, fun s =>
    ⟨fun x => ⟨_, rfl, called_callTo s x⟩, fun n => ⟨_, rfl, ?_⟩,
      forall_mem_of_conds calls_eq fun cc x => ?_⟩⟩
  · rw [← rstVector_eq]
    exact called_callTo s _
  · exact ⟨_, exec_decodeCcc cc x s, callIf_called cc x s⟩

/-- Settles O32: RET is `returnPC`, a conditional return is `returnIf` of the condition of its
code. -/
theorem returns : Obligations.Returns := by
  unfold Obligations.Returns
  refine ⟨rfl, forall_mem_of_conds returns_eq encode_decodeRcc, fun s =>
    ⟨⟨_, rfl, returned_returnPC s⟩, forall_mem_of_conds returns_eq fun cc => ?_⟩⟩
  exact ⟨_, exec_decodeRcc cc s, returnIf_returned cc s⟩

end Sys2Proof.Claims.Branch
end

section
/-!
SUPPORT. The stack, IO and machine-control group (44_stack_io_control.md): the two bytes of a push and
of a pop, the answer of an IO read, the byte RIM composes, and SIM as one update of four fields.
-/

namespace Sys2Proof.Machine

/-! ### The stack -/

/-- The host sees the two bytes pushed as the high one below SP, then the low one below it. -/
theorem push16_of_frame (hi lo : Byte) (s : State) :
    push16 (Word.of hi lo) s = { s with
      sp := s.sp - 2#16
      mem := (push16 (Word.of hi lo) s).mem
      events := .memWrite (s.sp - 2#16) lo :: .memWrite (s.sp - 1#16) hi :: s.events } := by
  have h := push16_frame (Word.of hi lo) s
  rwa [hi_of, lo_of] at h

/-! ### IO -/

theorem ioAddr_port8_toNat (p : Byte) : (ioAddr .port8 p).toNat = p.toNat := by
  rw [ioAddr, word_of_toNat, BitVec.toNat_ofNat, Nat.zero_mod, Nat.mul_zero, Nat.zero_add]

theorem ioAddr_portDuplicated_toNat (p : Byte) :
    (ioAddr .portDuplicated p).toNat = p.toNat * 256 + p.toNat := by
  rw [ioAddr, word_of_toNat, Nat.mul_comm]

/-- The host answers what it lists for the address. -/
theorem ioRead_listed {x : Word} {s : State} {v : Byte} (h : lookupCell x.toNat s.ioIn = some v) :
    (ioRead x s).1 = v ∧ (ioRead x s).2.draws = s.draws := by
  simp [ioRead, ioValue, h]

/-- An address the host does not list answers the next free value. -/
theorem ioRead_unlisted {x : Word} {s : State} (h : lookupCell x.toNat s.ioIn = none) :
    (ioRead x s).1 = (Config.freeValue s.draws).setWidth 8 ∧
    (ioRead x s).2.draws = s.draws + 1 := by
  simp [ioRead, ioValue, h, draw]

/-! ### HLT -/

/-- A halted core that takes no interrupt idles: the step leaves the whole state (R360). -/
theorem step_idle {s : State} (he : s.eiDelay = false) (ha : arbitrate s = none)
    (hh : s.halt = true) : step s = .next s := by
  simp only [step, he, ha, fetchAndRun, hh, Bool.false_eq_true, if_false, if_true]

/-! ### RIM -/

/-- With a hook the bit is the host's answer, and the call is seen. -/
theorem readSid_hook {s : State} {v : Bool} (h : s.sidIn = some v) :
    (readSid s).1 = v ∧ (readSid s).2.draws = s.draws ∧
    (readSid s).2.events = .sidRead v :: s.events := by
  simp [readSid, sidValue, h]

/-- Without a hook the bit is the next free value, and no call is made. -/
theorem readSid_no_hook {s : State} (h : s.sidIn = none) :
    (readSid s).1 = (Config.freeValue s.draws).getLsbD 0 ∧
    (readSid s).2.draws = s.draws + 1 ∧ (readSid s).2.events = s.events := by
  simp [readSid, sidValue, h, draw]

/-- The byte RIM composes: four bits above a nibble (R362). -/
def rimByte (sid p75 l65 l55 : Bool) (low : BitVec 4) : Byte :=
  BitVec.ofBool sid ++ BitVec.ofBool p75 ++ BitVec.ofBool l65 ++ BitVec.ofBool l55 ++ low

theorem readMasks_a (s : State) :
    (readMasks s).a = rimByte (readSid s).1 s.p75 s.rst65Line s.rst55Line
      (if s.trapCopyValid then s.trapImCopy else s.ieIm) := rfl

theorem rimByte_high : ∀ (sid p75 l65 l55 : Bool) (low : BitVec 4),
    (rimByte sid p75 l65 l55 low).getLsbD 7 = sid ∧ (rimByte sid p75 l65 l55 low).getLsbD 6 = p75 ∧
    (rimByte sid p75 l65 l55 low).getLsbD 5 = l65 ∧
    (rimByte sid p75 l65 l55 low).getLsbD 4 = l55 := by
  decide

theorem rimByte_low : ∀ (sid p75 l65 l55 : Bool) (low : BitVec 4),
    (rimByte sid p75 l65 l55 low).toNat % 16 = low.toNat := by
  decide

/-- With {IE, IM} as the nibble, bit 3 is IE and the bits below it are the masks. -/
theorem rimByte_ie_im : ∀ (sid p75 l65 l55 ie : Bool) (im : BitVec 3),
    (rimByte sid p75 l65 l55 (BitVec.ofBool ie ++ im)).getLsbD 3 = ie ∧
    (rimByte sid p75 l65 l55 (BitVec.ofBool ie ++ im)).toNat % 8 = im.toNat := by
  decide

/-! ### SIM -/

theorem simMasks_eq (x : Byte) (s : State) :
    simMasks x s = { s with im := if x.getLsbD 3 then x.extractLsb' 0 3 else s.im } := by
  unfold simMasks
  cases x.getLsbD 3 <;> rfl

theorem simLatch_eq (x : Byte) (s : State) :
    simLatch x s = { s with p75 := s.p75 && !x.getLsbD 4 } := by
  unfold simLatch
  cases x.getLsbD 4 <;> simp

theorem simSod_eq (x : Byte) (s : State) :
    simSod x s = { s with
      sod := if x.getLsbD 6 then x.getLsbD 7 else s.sod
      events := (if x.getLsbD 6 then [.sodChanged (x.getLsbD 7)] else []) ++ s.events } := by
  unfold simSod
  cases x.getLsbD 6 <;> rfl

/-- The masks `m` after SIM, as a number. -/
theorem simMasks_toNat (x : Byte) (m : BitVec 3) :
    (if x.getLsbD 3 then x.extractLsb' 0 3 else m).toNat =
      if x.getLsbD 3 then x.toNat % 8 else m.toNat := by
  rw [apply_ite BitVec.toNat, BitVec.extractLsb'_toNat, Nat.shiftRight_zero]

end Sys2Proof.Machine

namespace Sys2Proof.Claims

open Sys2Proof Sys2Proof.Machine

/-! ### The stack -/

/-- An instruction that pushes two bytes: where they land, and the frame of a push. -/
theorem pushes_of_exec {i : Instr} {s : State} {hi lo : Byte}
    (h : exec i s = .next (push16 (Word.of hi lo) s)) :
    ∃ t, exec i s = .next t ∧ Stored2 s t (s.sp - 2#16) (Word.of hi lo) ∧
      t = { s with
        sp := s.sp - 2#16, mem := t.mem
        events := .memWrite (s.sp - 2#16) lo :: .memWrite (s.sp - 1#16) hi :: s.events } :=
  ⟨_, h, stored2_push16 rfl rfl rfl rfl, push16_of_frame hi lo s⟩

/-- Settles O33: each form is one `Push16` of two registers. -/
theorem pushForms : Obligations.PushForms := by
  unfold Obligations.PushForms
  refine ⟨fun _ => rfl, rfl, fun s => List.forall_mem_cons.2 ⟨?_, List.forall_mem_cons.2 ⟨?_,
    List.forall_mem_cons.2 ⟨?_, List.forall_mem_singleton.2 ?_⟩⟩⟩⟩
  · exact pushes_of_exec rfl
  · exact pushes_of_exec rfl
  · exact pushes_of_exec rfl
  · exact pushes_of_exec rfl

/-- What a 16-bit read answers, and the state after it: what the two reads spend and what the host
sees of them. -/
theorem memRead16_loads (x : Word) (s : State) :
    ∃ v n, Loaded2 s x v n ∧
      memRead16 x s = (v, { s with draws := n, events := loaded2Events x v ++ s.events }) := by
  refine ⟨_, _, loaded2_memRead16 x s, Prod.ext rfl ?_⟩
  rw [← memRead16_loaded2Events]
  exact memRead16_frame x s

/-- `Pop16` is a 16-bit read at SP, and SP moves up by 2. -/
theorem pop16_loads (s : State) :
    ∃ v n, Loaded2 s s.sp v n ∧
      pop16 s = (v, { s with
        sp := s.sp + 2#16, draws := n, events := loaded2Events s.sp v ++ s.events }) := by
  obtain ⟨v, n, hload, h⟩ := memRead16_loads s.sp s
  have hpop : pop16 s =
      ((memRead16 s.sp s).1, { (memRead16 s.sp s).2 with sp := s.sp + 2#16 }) := rfl
  rw [h] at hpop
  exact ⟨v, n, hload, hpop⟩

/-- POP rp: the pair holds the two bytes loaded, and nothing outside it is written but SP. -/
theorem exec_pop_loads (rp : StackPair) (s : State) :
    ∃ t, exec (.pop rp) s = .next t ∧ Loaded2 s s.sp (t.pair (pairOfStack rp)) t.draws ∧
      t = State.setPair { s with
        sp := s.sp + 2#16, draws := t.draws
        events := loaded2Events s.sp (t.pair (pairOfStack rp)) ++ s.events }
        (pairOfStack rp) (t.pair (pairOfStack rp)) := by
  obtain ⟨v, n, hload, h⟩ := pop16_loads s
  have hexec : exec (.pop rp) s =
      .next ((pop16 s).2.setPair (pairOfStack rp) (pop16 s).1) := rfl
  rw [h] at hexec
  refine ⟨_, hexec, ?_⟩
  rw [pair_setPair_same, setPair_draws]
  exact ⟨hload, rfl⟩

/-- FixF keeps the documented bits of F. -/
theorem fixF_documentedBits (s : State) :
    ∀ k ∈ [7, 6, 4, 2, 0], (fixF s).f.getLsbD k = s.f.getLsbD k := by
  obtain ⟨hS, hZ, hAC, hP, hCY⟩ := fixF_documented s
  simp only [List.forall_mem_cons]
  exact ⟨hS, hZ, hAC, hP, hCY, nofun⟩

/-- Settles O34: POP rp is `Pop16` into a pair, POP PSW is `Pop16` into A and F and then FixF. -/
theorem popForms : Obligations.PopForms := by
  unfold Obligations.PopForms
  refine ⟨fun _ => rfl, rfl, fun s => ⟨?_, ?_, ?_, ?_⟩⟩
  · simpa only [pairOfStack, State.pair, State.setPair, hi_of, lo_of] using exec_pop_loads .bc s
  · simpa only [pairOfStack, State.pair, State.setPair, hi_of, lo_of] using exec_pop_loads .de s
  · simpa only [pairOfStack, State.pair, State.setPair, hi_of, lo_of] using exec_pop_loads .hl s
  · obtain ⟨v, n, hload, h⟩ := pop16_loads s
    have hexec : exec .popPsw s = .next (fixF { (pop16 s).2 with
      a := Word.hi (pop16 s).1, f := Word.lo (pop16 s).1 }) := rfl
    rw [h] at hexec
    exact ⟨_, v, n, hexec, hload, rfl, fixF_documentedBits _, undocAfter_fixF rfl rfl, rfl⟩

/-- Settles O35: XTHL is a 16-bit read at SP, then the two writes of the old HL, high byte first. -/
theorem xthlExchanges : Obligations.XthlExchanges := by
  unfold Obligations.XthlExchanges
  refine ⟨rfl, fun s => ?_⟩
  obtain ⟨v, n, hload, h⟩ := memRead16_loads s.sp s
  have hexec : exec .xthl s = .next ((memWrite s.sp s.l
      (memWrite (s.sp + 1#16) s.h (memRead16 s.sp s).2)).setHL (memRead16 s.sp s).1) := rfl
  rw [h] at hexec
  refine ⟨_, hexec, ?_, stored2_of (u := s) rfl rfl (.inr ?_), ?_⟩
  · rw [setHL_hl]
    exact hload
  · rw [hi_of, lo_of]
    rfl
  · rw [setHL_hl]
    rfl

/-! ### IO and control -/

/-- Settles O38: the address is `ioAddr` of the port, by either form; a read answers by what the
host lists there. -/
theorem portInputAndOutput : Obligations.PortInputAndOutput := by
  unfold Obligations.PortInputAndOutput
  refine ⟨fun _ => rfl, fun _ => rfl, fun s p => ⟨ioAddr s.cfg.ioForm p, fun h => ?_, fun h => ?_,
    ⟨_, rfl, fun v => ioRead_listed, ioRead_unlisted, rfl⟩, rfl⟩⟩
  · rw [h, ioAddr_port8_toNat]
  · rw [h, ioAddr_portDuplicated_toNat]

/-- Settles O39: each meaning is its equation; the halted step is `step_idle`. -/
theorem enableDisableHaltNop : Obligations.EnableDisableHaltNop := by
  unfold Obligations.EnableDisableHaltNop
  exact ⟨rfl, rfl, rfl, rfl, fun s => ⟨rfl, rfl, rfl, rfl, step_idle⟩⟩

/-! ### RIM and SIM -/

/-- The high nibble of RIM: SID, the RST7.5 latch and two line levels (R362). -/
theorem readMasks_high (s : State) :
    (readMasks s).a.getLsbD 7 = (readSid s).1 ∧ (readMasks s).a.getLsbD 6 = s.p75 ∧
    (readMasks s).a.getLsbD 5 = s.rst65Line ∧ (readMasks s).a.getLsbD 4 = s.rst55Line := by
  rw [readMasks_a]
  exact rimByte_high ..

/-- The low nibble of RIM: the TRAP mask copy while it is valid, else IE and the masks (R362). -/
theorem readMasks_low (s : State) :
    (s.trapCopyValid = true → (readMasks s).a.toNat % 16 = s.trapImCopy.toNat) ∧
    (s.trapCopyValid = false →
      (readMasks s).a.getLsbD 3 = s.ie ∧ (readMasks s).a.toNat % 8 = s.im.toNat) := by
  rw [readMasks_a]
  refine ⟨fun h => ?_, fun h => ?_⟩
  · rw [if_pos h]
    exact rimByte_low ..
  · rw [if_neg (Bool.eq_false_iff.1 h)]
    exact rimByte_ie_im ..

/-- Settles O40: the byte of RIM by its two nibbles, SID by the hook; SIM by the one
equation of each of its three parts. -/
theorem rimAndSim : Obligations.RimAndSim := by
  unfold Obligations.RimAndSim
  refine ⟨⟨rfl, fun s => ⟨readMasks s, rfl, ?_⟩⟩, ⟨rfl, fun s => ⟨_, rfl, ?_⟩⟩⟩
  · obtain ⟨h7, h6, h5, h4⟩ := readMasks_high s
    obtain ⟨hcopy, hlive⟩ := readMasks_low s
    refine ⟨fun v hv => ?_, fun hv => ?_, h6, h5, h4, hcopy, hlive, ?_⟩
    · rw [h7]
      exact readSid_hook hv
    · rw [h7]
      exact readSid_no_hook hv
    · rw [h7]
      rfl
  · rw [simMasks_eq, simLatch_eq, simSod_eq]
    exact ⟨simMasks_toNat s.a s.im, rfl, rfl, rfl, rfl⟩

end Sys2Proof.Claims
end

section
/-!
SUPPORT. The variant-dependent opcodes (45_undocumented.md): which of them the decoder takes for
undocumented instructions and when a step is refused (R420), the 16-bit results of DSUB, ARHL and
RDEL, and the rotates as one place around a ring of bits, which a ring's length of them restores.
-/

namespace Sys2Proof.Machine

/-! ### The decoder -/

/-- An instruction that both classes of variant have is documented. -/
theorem undocumented_of_presentOn_both {o : Origin} (h8080 : o.presentOn .i8080 = true)
    (h8085 : o.presentOn .i8085a = true) : o.undocumented = false := by
  cases o with
  | always | documented8085 => rfl
  | alias8080 => exact absurd h8085 (by decide)
  | undocumented8085 => exact absurd h8080 (by decide)

/-! ### The step -/

theorem refusesOpcode_hardware {c : Config} (h : c.undoc = .hardware) (i : Instr) :
    refusesOpcode c i = false := by
  simp only [refusesOpcode, h]

theorem refusesOpcode_refuse {c : Config} (h : c.undoc = .refuse) (i : Instr) :
    refusesOpcode c i = i.origin.undocumented := by
  simp only [refusesOpcode, h]

/-- Every meaning completes. -/
theorem exec_completes (i : Instr) (s : State) : ∃ t, exec i s = .next t := by
  cases i <;> exact ⟨_, rfl⟩

theorem exec_ne_refused (i : Instr) (s : State) (r : Refusal) : exec i s ≠ .refused r := by
  obtain ⟨t, ht⟩ := exec_completes i s
  rw [ht]
  exact nofun

/-- Where no interrupt is taken, a step is the part past the arbitration point, the grace period
over. -/
theorem step_past_arbitration {s : State} (h : s.eiDelay = true ∨ arbitrate s = none) :
    step s = fetchAndRun { s with eiDelay := false } := by
  cases he : s.eiDelay with
  | true => simp only [step, he, if_true]
  | false =>
    have ha : arbitrate s = none := h.resolve_left (he ▸ Bool.false_ne_true)
    have hs : s = { s with eiDelay := false } := by rw [← he]
    simp only [step, he, ha, Bool.false_eq_true, if_false]
    exact congrArg fetchAndRun hs

/-- The state in which a step fetches its instruction. -/
def fetchState (s : State) : State := synthStatus { s with eiDelay := false }

/-! ### DSUB, ARHL and RDEL -/

/-- The documented flags of DSUB (R410). -/
theorem dsubFlags_flags (q : Int) (s : State) :
    flagCY (dsubFlags q s).f = decide (q < 0) ∧
    flagZ (dsubFlags q s).f = decide (BitVec.ofInt 16 q = 0#16) ∧
    flagS (dsubFlags q s).f = (BitVec.ofInt 16 q).getLsbD 15 ∧
    flagAC (dsubFlags q s).f = (Config.freeValue s.draws).getLsbD 0 ∧
    flagP (dsubFlags q s).f = (Config.freeValue (s.draws + 1)).getLsbD 0 := by
  simp [dsubFlags, fixF, draw]

theorem ofInt_toNat (q : Int) : ((BitVec.ofInt 16 q).toNat : Int) = q % 65536 := by
  rw [BitVec.toNat_ofInt]
  omega

theorem ofInt_sub_eq_zero_iff (x y : Word) :
    BitVec.ofInt 16 ((x.toNat : Int) - (y.toNat : Int)) = 0#16 ↔ x = y := by
  have hdiff := ofInt_toNat ((x.toNat : Int) - (y.toNat : Int))
  have hx := x.isLt
  have hy := y.isLt
  rw [← BitVec.toNat_inj, ← BitVec.toNat_inj, BitVec.toNat_ofNat]
  omega

/-- Bit 7 of the high byte is bit 15 of the word. -/
theorem hi_getLsbD_seven (v : Word) : (Word.hi v).getLsbD 7 = v.getLsbD 15 :=
  BitVec.getLsbD_extractLsb' 8 8 v 7

theorem word_of_getLsbD_fifteen (h l : Byte) : (Word.of h l).getLsbD 15 = h.getLsbD 7 := by
  rw [← hi_getLsbD_seven, hi_of]

/-- A word shifted right with b taken in above (R411). -/
theorem ofBool_append_high_toNat (b : Bool) (x : Word) :
    (BitVec.ofBool b ++ x.extractLsb' 1 15).toNat = x.toNat / 2 + 32768 * b.toNat := by
  have hx := x.isLt
  rw [BitVec.toNat_append, ← Nat.shiftLeft_add_eq_or_of_lt (x.extractLsb' 1 15).isLt,
    BitVec.toNat_ofBool, BitVec.extractLsb'_toNat, Nat.shiftLeft_eq, Nat.shiftRight_eq_div_pow]
  omega

/-- A word shifted left with b taken in below (R412). -/
theorem low_append_ofBool_toNat (x : Word) (b : Bool) :
    (x.extractLsb' 0 15 ++ BitVec.ofBool b).toNat = (2 * x.toNat + b.toNat) % 65536 := by
  have hb := Bool.toNat_le b
  refine (BitVec.toNat_concat _ b).trans ?_
  rw [BitVec.extractLsb'_toNat, Nat.shiftRight_zero]
  omega

theorem low_append_ofBool_getLsbD (x : Word) (b : Bool) {k : Nat} (hk : k < 16) :
    (x.extractLsb' 0 15 ++ BitVec.ofBool b).getLsbD k = if k = 0 then b else x.getLsbD (k - 1) := by
  refine (BitVec.getLsbD_concat _ b k).trans ?_
  rw [BitVec.getLsbD_extractLsb', Nat.zero_add, decide_eq_true (show k - 1 < 15 by omega),
    Bool.true_and]

/-! ### Bits in a ring -/

section
variable {m : Nat} {x x' : BitVec m} {c c' : Bool}

/-- A shift left through a carry turns the ring of carry and word by m of its m + 1 places. -/
theorem cons_getLsbD_of_shiftLeft (hm : 0 < m)
    (hx : ∀ k, k < m → x'.getLsbD k = if k = 0 then c else x.getLsbD (k - 1))
    (hc : c' = x.getLsbD (m - 1)) {k : Nat} (hk : k < m + 1) :
    (BitVec.cons c' x').getLsbD k = (BitVec.cons c x).getLsbD ((k + m) % (m + 1)) := by
  rw [BitVec.getLsbD_cons, BitVec.getLsbD_cons]
  obtain rfl | hk0 := Nat.eq_zero_or_pos k
  · rw [if_neg hm.ne, hx 0 hm, Nat.zero_add, Nat.mod_eq_of_lt m.lt_succ_self, if_pos rfl,
      if_pos rfl]
  · have hturn : (k + m) % (m + 1) = k - 1 := by
      rw [show k + m = k - 1 + (m + 1) by omega, Nat.add_mod_right, Nat.mod_eq_of_lt (by omega)]
    rw [hturn, if_neg (show k - 1 ≠ m by omega)]
    split
    · rw [hc, ‹k = m›]
    · rw [hx k (by omega), if_neg hk0.ne']

/-- A shift right through a carry turns it by one. -/
theorem cons_getLsbD_of_shiftRight (hm : 0 < m)
    (hx : ∀ k, k < m → x'.getLsbD k = if k = m - 1 then c else x.getLsbD (k + 1))
    (hc : c' = x.getLsbD 0) {k : Nat} (hk : k < m + 1) :
    (BitVec.cons c' x').getLsbD k = (BitVec.cons c x).getLsbD ((k + 1) % (m + 1)) := by
  rw [BitVec.getLsbD_cons, BitVec.getLsbD_cons]
  obtain rfl | hkm : k = m ∨ k < m := by omega
  · rw [if_pos rfl, Nat.mod_self, if_neg hm.ne, hc]
  · rw [if_neg hkm.ne, hx k hkm, Nat.mod_eq_of_lt (by omega)]
    exact if_congr (by omega) rfl rfl

theorem cons_inj (h : BitVec.cons c' x' = BitVec.cons c x) : x' = x ∧ c' = c :=
  ⟨by simpa only [BitVec.setWidth_cons] using congrArg (BitVec.setWidth m) h,
    by simpa only [BitVec.msb_cons] using congrArg BitVec.msb h⟩

end

end Sys2Proof.Machine

namespace Sys2Proof.Claims

open Sys2Proof Sys2Proof.Machine

/-! ### Undocumented opcodes -/

theorem undocumentedOn_subset_twelve (v : Variant) : undocumentedOn v ⊆ twelve := by
  cases v <;> decide

theorem decodeOp_undocumented_of_mem_twelve (v : Variant) (lo hi : Byte) :
    ∀ op ∈ twelve, (decodeOp v op lo hi).origin.undocumented = decide (op ∈ undocumentedOn v) := by
  refine List.forall_iff_forall_mem.1 ?_
  cases v <;> exact ⟨rfl, rfl, rfl, rfl, rfl, rfl, rfl, rfl, rfl, rfl, rfl, rfl⟩

/-- The opcode alone says whether an instruction is undocumented: outside the twelve every variant
has the instruction, and the twelve are listed. -/
theorem decodeOp_undocumented (v : Variant) (op lo hi : Byte) :
    (decodeOp v op lo hi).origin.undocumented = decide (op ∈ undocumentedOn v) := by
  by_cases h : op ∈ twelve
  · exact decodeOp_undocumented_of_mem_twelve v lo hi op h
  · rw [decide_eq_false (mt (@undocumentedOn_subset_twelve v op) h)]
    refine undocumented_of_presentOn_both ?_ ?_
    · exact decodeOp_alike h v .i8080 lo hi ▸ decodeOp_presentOn .i8080 op lo hi
    · exact decodeOp_alike h v .i8085a lo hi ▸ decodeOp_presentOn .i8085a op lo hi

theorem fetchInstr_undocumented (s : State) :
    (fetchInstr s).1.origin.undocumented =
      decide ((fetch8 s).1 ∈ undocumentedOn s.cfg.variant) := by
  cases h : opLength s.cfg.variant (fetch8 s).1 with
  | one => rw [fetchInstr_one h]; exact decodeOp_undocumented ..
  | two => rw [fetchInstr_two h]; exact decodeOp_undocumented ..
  | three => rw [fetchInstr_three h]; exact decodeOp_undocumented ..

/-- A step that fetches runs what it fetched unless that is refused. -/
theorem step_of_fetches {s : State} (h : Fetches s) :
    step s =
      if refusesOpcode s.cfg (fetchInstr (fetchState s)).1 then .refused .undocumentedOpcode
      else exec (fetchInstr (fetchState s)).1 (fetchInstr (fetchState s)).2 := by
  obtain ⟨hrun, hpast⟩ := h
  exact (step_past_arbitration hpast).trans (if_neg (Bool.eq_false_iff.1 hrun))

/-- In plain RAM, what is fetched is undocumented by the byte at PC. -/
theorem fetchState_undocumented {s : State} (h : s.cfg.isDevice s.pc = false) :
    (fetchInstr (fetchState s)).1.origin.undocumented =
      decide (s.mem.read s.pc.toNat ∈ undocumentedOn s.cfg.variant) := by
  rw [fetchInstr_undocumented, fetch8_ram (s := fetchState s) h]
  rfl

/-- A choice between a refusal and a meaning is that refusal only by the condition. -/
theorem ite_exec_eq_refused_iff {c : Bool} {r : Refusal} {i : Instr} {s : State} :
    (if c then .refused r else exec i s) = .refused r ↔ c = true := by
  cases c with
  | true => exact iff_of_true rfl rfl
  | false => exact iff_of_false (exec_ne_refused i s r) Bool.false_ne_true

/-- Settles O12: a step that fetches is refused by the instruction fetched, which is undocumented
by its opcode, and nothing else refuses it. -/
theorem refusedOpcodes : Obligations.RefusedOpcodes := by
  unfold Obligations.RefusedOpcodes
  intro s hfetch hram
  rw [step_of_fetches hfetch]
  refine ⟨fun hrefuse => ?_, fun hhardware => ?_⟩
  · rw [ite_exec_eq_refused_iff, refusesOpcode_refuse hrefuse, fetchState_undocumented hram,
      decide_eq_true_iff]
  · rw [refusesOpcode_hardware hhardware, if_neg Bool.false_ne_true]
    exact exec_completes _ _

/-! ### Rotates around a ring -/

/-- The instruction turns the bits of `ring` around by d places. -/
def Turns (i : Instr) {m : Nat} (ring : State → BitVec m) (d : Nat) : Prop :=
  ∀ s, ∃ t, exec i s = .next t ∧
    ∀ k, k < m → (ring t).getLsbD k = (ring s).getLsbD ((k + d) % m)

theorem Turns.replicate {i : Instr} {m : Nat} {ring : State → BitVec m} {d : Nat}
    (h : Turns i ring d) (n : Nat) :
    ∀ s, ∃ t, execAll (List.replicate n i) s = .next t ∧
      ∀ k, k < m → (ring t).getLsbD k = (ring s).getLsbD ((k + n * d) % m) := by
  induction n with
  | zero =>
    refine fun s => ⟨s, rfl, fun k hk => ?_⟩
    rw [Nat.zero_mul, Nat.add_zero, Nat.mod_eq_of_lt hk]
  | succ n ih =>
    intro s
    obtain ⟨u, hu, hone⟩ := h s
    obtain ⟨t, ht, hrest⟩ := ih u
    refine ⟨t, ?_, fun k hk => ?_⟩
    · rw [List.replicate_succ, execAll, hu]
      exact ht
    · rw [hrest k hk, hone _ (Nat.mod_lt _ (k.zero_le.trans_lt hk)), Nat.mod_add_mod,
        Nat.succ_mul, Nat.add_assoc]

/-- As many turns as the ring has places restore it. -/
theorem Turns.restores {i : Instr} {m : Nat} {ring : State → BitVec m} {d : Nat}
    (h : Turns i ring d) (s : State) :
    ∃ t, execAll (List.replicate m i) s = .next t ∧ ring t = ring s := by
  obtain ⟨t, ht, hbits⟩ := h.replicate m s
  refine ⟨t, ht, BitVec.eq_of_getLsbD_eq fun k hk => ?_⟩
  rw [hbits k hk, Nat.add_mul_mod_self_left, Nat.mod_eq_of_lt hk]

/-- CY above the bits of A: what RAL and RAR turn. -/
def carryA (s : State) : BitVec 9 := BitVec.cons (s.f.getLsbD 0) s.a

/-- CY above the bits of DE: what RDEL turns. -/
def carryDE (s : State) : BitVec 17 := BitVec.cons (s.f.getLsbD 0) s.de

theorem rlc_turns : Turns .rlc State.a 7 := by
  obtain ⟨⟨-, h⟩, -⟩ := rotatesAndCarry
  intro s
  obtain ⟨t, ht, hbits, -⟩ := h s
  exact ⟨t, ht, hbits⟩

theorem rrc_turns : Turns .rrc State.a 1 := by
  obtain ⟨-, ⟨-, h⟩, -⟩ := rotatesAndCarry
  intro s
  obtain ⟨t, ht, hbits, -⟩ := h s
  exact ⟨t, ht, hbits⟩

theorem ral_turns : Turns .ral carryA 8 := by
  obtain ⟨-, -, ⟨-, h⟩, -⟩ := rotatesAndCarry
  intro s
  obtain ⟨t, ht, hbits, ⟨hcy, -⟩, -⟩ := h s
  exact ⟨t, ht, fun k hk => cons_getLsbD_of_shiftLeft (by decide) hbits hcy hk⟩

theorem rar_turns : Turns .rar carryA 1 := by
  obtain ⟨-, -, -, ⟨-, h⟩, -⟩ := rotatesAndCarry
  intro s
  obtain ⟨t, ht, hbits, ⟨hcy, -⟩, -⟩ := h s
  exact ⟨t, ht, fun k hk => cons_getLsbD_of_shiftRight (by decide) hbits hcy hk⟩

/-- What RDEL leaves in DE, with CY from the bit shifted out (R412). -/
theorem exec_rdel (s : State) :
    ∃ t, exec .rdel s = .next t ∧
      t.de = s.de.extractLsb' 0 15 ++ BitVec.ofBool (s.f.getLsbD 0) ∧
      CarryOnly s t (s.d.getLsbD 7) ∧
      t = { s with d := t.d, e := t.e, f := t.f, draws := t.draws } :=
  ⟨_, rfl, setDE_de s _, carryOnly_fixF rfl rfl rfl, rfl⟩

theorem rdel_turns : Turns .rdel carryDE 16 := by
  intro s
  obtain ⟨t, ht, hde, ⟨hcy, -⟩, -⟩ := exec_rdel s
  refine ⟨t, ht, fun k hk => cons_getLsbD_of_shiftLeft (by decide) (fun j hj => ?_) ?_ hk⟩
  · rw [hde, low_append_ofBool_getLsbD _ _ hj]
  · rw [hcy, word_of_getLsbD_fifteen]

/-- Settles O25: RLC and RRC turn the 8 bits of A, RAL and RAR the 9 of CY and A, RDEL the 17 of CY
and DE. -/
theorem rotatesReturn : Obligations.RotatesReturn := by
  unfold Obligations.RotatesReturn
  refine fun s => ⟨rlc_turns.restores s, rrc_turns.restores s, ?_, ?_, ?_⟩
  · obtain ⟨t, ht, hring⟩ := ral_turns.restores s
    exact ⟨t, ht, cons_inj hring⟩
  · obtain ⟨t, ht, hring⟩ := rar_turns.restores s
    exact ⟨t, ht, cons_inj hring⟩
  · obtain ⟨t, ht, hring⟩ := rdel_turns.restores s
    exact ⟨t, ht, cons_inj hring⟩

/-! ### The 8080 aliases -/

/-- Settles O41: each means what the instruction it stands for means, and only its field bits
keep it from being well-formed on an 8080. -/
theorem aliasesOf8080 : Obligations.AliasesOf8080 := by
  unfold Obligations.AliasesOf8080
  exact ⟨fun _ => rfl, fun _ => rfl, rfl, fun _ _ => rfl, fun _ => bne_iff_ne,
    fun _ _ => bne_iff_ne, fun s => ⟨fun _ => rfl, fun _ => rfl, ⟨_, rfl, returned_returnPC s⟩,
      fun _ x => ⟨_, rfl, called_callTo s x⟩⟩⟩

/-! ### The 8085A instructions -/

/-- Settles O42: the 16-bit result is written back whole, DSUB's flags follow the exact difference,
ARHL and RDEL write the carry only. -/
theorem doubleWordArithmetic8085 : Obligations.DoubleWordArithmetic8085 := by
  unfold Obligations.DoubleWordArithmetic8085
  refine ⟨rfl, rfl, rfl, fun s =>
    ⟨⟨_, rfl, ?_⟩, ⟨_, rfl, ?_, carryOnly_fixF rfl rfl rfl, rfl⟩, ?_⟩⟩
  · obtain ⟨hCY, hZ, hS, hAC, hP⟩ := dsubFlags_flags ((s.hl.toNat : Int) - (s.bc.toNat : Int))
      (s.setHL (BitVec.ofInt 16 ((s.hl.toNat : Int) - (s.bc.toNat : Int))))
    refine ⟨?_, hCY.trans ?_, hZ.trans ?_, hS.trans ?_, hAC, hP, undocAfter_fixF rfl rfl, rfl⟩
    · exact (congrArg (fun v : Word => (v.toNat : Int)) (setHL_hl s _)).trans (ofInt_toNat _)
    · exact decide_eq_decide.2 (by omega)
    · exact decide_eq_decide.2 (ofInt_sub_eq_zero_iff s.hl s.bc)
    · exact (hi_getLsbD_seven _).symm
  · exact (congrArg BitVec.toNat (setHL_hl s _)).trans (ofBool_append_high_toNat ..)
  · obtain ⟨t, ht, hde, hcarry, hframe⟩ := exec_rdel s
    refine ⟨t, ht, ?_, hcarry, hframe⟩
    rw [hde, low_append_ofBool_toNat]

/-- JNK as a jump on K = 0 (R417). -/
theorem exec_jnk (x : Word) (s : State) :
    exec (.jnk x) s = .next (if s.f.getLsbD 5 = false then { s with pc := x } else s) := by
  show Host.Outcome.next (if s.f.getLsbD 5 then s else { s with pc := x }) = _
  cases s.f.getLsbD 5 <;> rfl

/-- Settles O43: RSTV is a call or nothing, JNK and JK are the choice that they are written as. -/
theorem overflowAndKTransfers8085 : Obligations.OverflowAndKTransfers8085 := by
  unfold Obligations.OverflowAndKTransfers8085
  exact ⟨rfl, fun _ => rfl, fun _ => rfl, fun s =>
    ⟨⟨_, rfl, ite_taken_or_same (Called s · 0x0040) (called_callTo s 0x0040) s (s.f.getLsbD 1)⟩,
      fun x => exec_jnk x s, fun _ => rfl⟩⟩

end Sys2Proof.Claims
end

section
/-!
SUPPORT. What an instruction does to the state beside registers and memory: the parameters, the
interrupt and serial state, STATUS and the host's side (10_state.md sections 4 and 5). Five
instructions write some of it, and none writes the parameters, TRAPL or the acknowledge.
-/

namespace Sys2Proof.Machine

/-- Only registers, flags, memory, SID and what the host has seen or the model drawn differ. -/
abbrev OnlyData (s t : State) : Prop :=
  t = { s with
    a := t.a, b := t.b, c := t.c, d := t.d, e := t.e, h := t.h, l := t.l, f := t.f, w := t.w
    z := t.z, pc := t.pc, sp := t.sp, mem := t.mem, sid := t.sid, events := t.events
    draws := t.draws }

section
variable {s t u : State}

theorem OnlyData.trans (h : OnlyData s u) (h' : OnlyData u t) : OnlyData s t :=
  Eq.trans h' (by rw [h])

theorem next_onlyData (he : (.next u : Result) = .next t) (h : OnlyData s u) : OnlyData s t := by
  injection he with he
  exact he ▸ h

theorem ite_onlyData {c : Prop} [Decidable c] (hu : OnlyData s u) (ht : OnlyData s t) :
    OnlyData s (if c then u else t) := by
  split
  · exact hu
  · exact ht

end

theorem setReg_onlyData (r : Reg) (x : Byte) (s : State) : OnlyData s (s.setReg r x) := by
  cases r <;> rfl

theorem setPair_onlyData (rp : Pair) (x : Word) (s : State) : OnlyData s (s.setPair rp x) := by
  cases rp <;> rfl

theorem setHL_onlyData (x : Word) (s : State) : OnlyData s (s.setHL x) := rfl

theorem fixF_onlyData (s : State) : OnlyData s (fixF s) := rfl

theorem memWrite_onlyData (x : Word) (v : Byte) (s : State) : OnlyData s (memWrite x v s) := rfl

theorem memRead16_onlyData (x : Word) (s : State) : OnlyData s (memRead16 x s).2 := rfl

theorem callTo_onlyData (x : Word) (s : State) : OnlyData s (callTo x s) := rfl

theorem pop16_onlyData (s : State) : OnlyData s (pop16 s).2 := rfl

theorem returnPC_onlyData (s : State) : OnlyData s (returnPC s) := by
  rw [returnPC_frame]

/-- Everything an instruction can do beside registers and memory: nothing, or what one of EI, DI,
HLT, RIM and SIM does. -/
theorem exec_cases {i : Instr} {s t : State} (he : exec i s = .next t) :
    OnlyData s t ∨
    (i = .ei ∧ t = setIE true { s with eiDelay := true }) ∨
    (i = .di ∧ t = setIE false s) ∨
    (i = .hlt ∧ t = { s with halt := true }) ∨
    (i = .rim ∧ t = readMasks s) ∨
    (i = .sim ∧ t = simSod s.a (simLatch s.a (simMasks s.a s))) := by
  cases i with
  | ei => exact .inr (.inl ⟨rfl, (Host.Outcome.next.inj he).symm⟩)
  | di => exact .inr (.inr (.inl ⟨rfl, (Host.Outcome.next.inj he).symm⟩))
  | hlt => exact .inr (.inr (.inr (.inl ⟨rfl, (Host.Outcome.next.inj he).symm⟩)))
  | rim => exact .inr (.inr (.inr (.inr (.inl ⟨rfl, (Host.Outcome.next.inj he).symm⟩))))
  | sim => exact .inr (.inr (.inr (.inr (.inr ⟨rfl, (Host.Outcome.next.inj he).symm⟩))))
  | movMR | mviM | lda | sta | lhld | shld | ldax | stax | xchg | cma | jmp | pchl | push | pushPsw
  | sphl | inPort | outPort | nop | nopAlias | jmpAlias | ldhi | ldsi | shlx | lhlx
  | addR | addM | adi | adcR | adcM | aci | subR | subM | sui | sbbR | sbbM | sbi | inrM | dcrM
  | dad | daa | anaR | anaM | ani | xraR | xraM | xri | oraR | oraM | ori | cmpR | cmpM | cpi
  | rlc | rrc | ral | rar | cmc | stc | dsub | arhl | rdel =>
    exact .inl (next_onlyData he (by rfl))
  | movRR | mviR => exact .inl (next_onlyData he (setReg_onlyData _ _ s))
  | movRM dst =>
    exact .inl (next_onlyData he (OnlyData.trans (u := (readM s).2) rfl (setReg_onlyData dst _ _)))
  | inrR dst | dcrR dst =>
    exact .inl (next_onlyData he ((setReg_onlyData dst _ s).trans (fixF_onlyData _)))
  | lxi => exact .inl (next_onlyData he (setPair_onlyData _ _ s))
  | pop => exact .inl (next_onlyData he ((pop16_onlyData s).trans (setPair_onlyData _ _ _)))
  | popPsw => 
    exact .inl (next_onlyData he (((pop16_onlyData s).trans (by rfl)).trans (fixF_onlyData _)))
  | inx rp | dcx rp =>
    exact .inl (next_onlyData he ((setPair_onlyData rp _ s).trans (fixF_onlyData _)))
  | xthl =>
    exact .inl (next_onlyData he ((memRead16_onlyData s.sp s).trans ((memWrite_onlyData _ _ _).trans
      ((memWrite_onlyData _ _ _).trans (setHL_onlyData _ _)))))
  | jnz | jz | jnc | jc | jpo | jpe | jp | jm | jnk | jk =>
    exact .inl (next_onlyData he (ite_onlyData (by rfl) (by rfl)))
  | call | rst | callAlias => exact .inl (next_onlyData he (callTo_onlyData _ s))
  | cnz | cz | cnc | cc | cpo | cpe | cp | cm | rstv =>
    exact .inl (next_onlyData he (ite_onlyData (callTo_onlyData _ s) rfl))
  | ret | retAlias => exact .inl (next_onlyData he (returnPC_onlyData s))
  | rnz | rz | rnc | rc | rpo | rpe | rp | rm =>
    exact .inl (next_onlyData he (ite_onlyData (returnPC_onlyData s) rfl))

/-! ### What no step changes or sets -/

/-- The parameters and the acknowledge are as before, and TRAPL is not set. -/
structure Keeps (s t : State) : Prop where
  cfg : t.cfg = s.cfg
  inta : t.inta = s.inta
  trapLatch : s.trapLatch = false → t.trapLatch = false

theorem Keeps.trans {s t u : State} (h : Keeps s u) (h' : Keeps u t) : Keeps s t :=
  ⟨h'.cfg.trans h.cfg, h'.inta.trans h.inta, fun hs => h'.trapLatch (h.trapLatch hs)⟩

theorem OnlyData.keeps {s t : State} (h : OnlyData s t) : Keeps s t := by
  rw [h]
  exact ⟨rfl, rfl, id⟩

theorem exec_keeps {i : Instr} {s t : State} (he : exec i s = .next t) : Keeps s t := by
  obtain h | ⟨-, rfl⟩ | ⟨-, rfl⟩ | ⟨-, rfl⟩ | ⟨-, rfl⟩ | ⟨-, rfl⟩ := exec_cases he
  · exact h.keeps
  · exact ⟨rfl, rfl, id⟩
  · exact ⟨rfl, rfl, id⟩
  · exact ⟨rfl, rfl, id⟩
  · exact ⟨rfl, rfl, id⟩
  · rw [simMasks_eq, simLatch_eq, simSod_eq]
    exact ⟨rfl, rfl, id⟩

/-- Only EI begins a grace period. -/
theorem exec_eiDelay {i : Instr} {s t : State} (he : exec i s = .next t) (hi : i ≠ .ei) :
    t.eiDelay = s.eiDelay := by
  obtain h | ⟨hei, -⟩ | ⟨-, rfl⟩ | ⟨-, rfl⟩ | ⟨-, rfl⟩ | ⟨-, rfl⟩ := exec_cases he
  · rw [h]
  · exact absurd hei hi
  · rfl
  · rfl
  · rfl
  · rw [simMasks_eq, simLatch_eq, simSod_eq]

theorem fetchInstr_onlyData (s : State) : OnlyData s (fetchInstr s).2 := by
  rw [fetchInstr_frame]

/-- An entry clears TRAPL or leaves it. -/
theorem enter_keeps {src : Source} {s t : State} (he : enter src s = .next t) : Keeps s t := by
  obtain ⟨-, rfl⟩ | ⟨-, rfl⟩ | ⟨-, rfl⟩ | ⟨-, rfl⟩ | ⟨-, _, _, -, -, rfl⟩ := enter_cases he
  all_goals rw [callTo_frame]
  · exact ⟨rfl, rfl, fun _ => rfl⟩
  · exact ⟨rfl, rfl, id⟩
  · exact ⟨rfl, rfl, id⟩
  · exact ⟨rfl, rfl, id⟩
  · exact ⟨rfl, rfl, id⟩

theorem step_keeps {s t : State} (h : step s = .next t) : Keeps s t := by
  obtain ⟨src, -, -, he⟩ | ⟨-, -, rfl⟩ | ⟨-, -, i, u, hf, -, he⟩ := step_cases h
  · have hstatus : Keeps s (synthStatus s) := ⟨rfl, rfl, id⟩
    exact hstatus.trans (enter_keeps he)
  · exact ⟨rfl, rfl, id⟩
  · have hstatus : Keeps s (synthStatus { s with eiDelay := false }) := ⟨rfl, rfl, id⟩
    have hfetch := (fetchInstr_onlyData (synthStatus { s with eiDelay := false })).keeps
    rw [hf] at hfetch
    exact hstatus.trans (hfetch.trans (exec_keeps he))

end Sys2Proof.Machine
end

section
/-!
SUPPORT. Runs of steps (60_exceptions.md R450, R457): an induction for what a step keeps, one for
what lets every next step complete, and the states that a step leaves as they are.
-/

namespace Sys2Proof.Machine

/-! ### Inductions over a run -/

theorem core_run_succ {n : Nat} {s t : State} (h : step s = .next t) :
    Host.Core.run core (n + 1) s = Host.Core.run core n t := by
  have hcore : core.step s = .next t := h
  simp only [Host.Core.run, hcore]

/-- A run that completes begins with a step that does. -/
theorem step_of_core_run {n : Nat} {s t : State} (h : Host.Core.run core (n + 1) s = .next t) :
    ∃ u, step s = .next u ∧ Host.Core.run core n u = .next t := by
  cases hs : step s with
  | next u => exact ⟨u, rfl, (core_run_succ hs).symm.trans h⟩
  | fault r => cases r
  | refused r =>
    have hcore : core.step s = .refused r := hs
    simp only [Host.Core.run, hcore] at h
    cases h

/-- What every step keeps holds after any run. -/
theorem core_run_keeps {P : State → Prop} (hstep : ∀ s t, P s → step s = .next t → P t) (n : Nat) :
    ∀ s t, P s → Host.Core.run core n s = .next t → P t := by
  induction n with
  | zero =>
    intro s t hs h
    injection h with h
    exact h ▸ hs
  | succ n ih =>
    intro s t hs h
    obtain ⟨u, hu, hrest⟩ := step_of_core_run h
    exact ih u t (hstep s u hs hu) hrest

/-- Where a step completes and keeps what lets it complete, any run completes. -/
theorem runsSafely_of {P : State → Prop} (hstep : ∀ s, P s → ∃ t, step s = .next t ∧ P t)
    (n : Nat) : ∀ s, P s → RunsSafely n s := by
  induction n with
  | zero => exact fun s _ => ⟨s, rfl⟩
  | succ n ih =>
    intro s hs
    obtain ⟨u, hu, hPu⟩ := hstep s hs
    obtain ⟨t, ht⟩ := ih u hPu
    exact ⟨t, (core_run_succ hu).trans ht⟩

section
variable {s : State} (h : step s = .next s)
include h

theorem core_run_fixed (n : Nat) : Host.Core.run core n s = .next s := by
  induction n with
  | zero => rfl
  | succ n ih => exact (core_run_succ h).trans ih

/-- A run by cycles stays there too, whatever the budget (70_reset_and_hazards.md R524). -/
theorem run_fixed (fuel budget : Nat) : run fuel budget s = .next s := by
  induction fuel generalizing budget with
  | zero => rfl
  | succ fuel ih =>
    cases budget with
    | zero => rfl
    | succ budget =>
      simp only [run, h]
      exact ih _

end

/-! ### A step that completes -/

/-- Where arbitration selects a source, its entry is the step. -/
theorem step_enter {s : State} {src : Source} (he : s.eiDelay = false)
    (ha : arbitrate s = some src) : step s = enter src (synthStatus s) := by
  simp only [step, he, ha, Bool.false_eq_true, if_false]

section
variable {s : State}

theorem enter_intr_noAcknowledge (h : s.inta = none) :
    enter .intr s = .refused .noAcknowledge := by
  have hi : (enterCommon s).inta = none := h
  simp only [enter, enterIntr, hi]

variable {bytes : List Byte} (h : s.inta = some bytes)
include h

theorem enter_intr_unsupported (ht : ackTarget bytes = none) :
    enter .intr s = .refused .unsupportedAcknowledge := by
  have hi : (enterCommon s).inta = some bytes := h
  simp only [enter, enterIntr, hi, ht]

theorem enter_intr_next {target : Word} (ht : ackTarget bytes = some target) :
    enter .intr s = .next (callTo target ((enterCommon s).log (.acknowledge bytes))) := by
  have hi : (enterCommon s).inta = some bytes := h
  simp only [enter, enterIntr, hi, ht]

end

theorem enter_completes (src : Source) {s : State} (h : s.AcknowledgeAdmitted) :
    ∃ t, enter src s = .next t := by
  cases src with
  | trap | rst75 | rst65 | rst55 => exact ⟨_, rfl⟩
  | intr =>
    obtain ⟨bytes, hbytes, hsome⟩ := h
    obtain ⟨target, htarget⟩ := Option.isSome_iff_exists.1 hsome
    exact ⟨_, enter_intr_next hbytes htarget⟩

theorem fetchAndRun_completes {s : State} (h : s.cfg.undoc = .hardware) :
    ∃ t, fetchAndRun s = .next t := by
  simp only [fetchAndRun, refusesOpcode_hardware h, Bool.false_eq_true, if_false]
  split
  · exact ⟨s, rfl⟩
  · exact exec_completes _ _

/-- An entry is completed by the acknowledge, any other step by HARDWARE. -/
theorem step_completes {s : State} (hu : s.cfg.undoc = .hardware) (ha : s.AcknowledgeAdmitted) :
    ∃ t, step s = .next t := by
  cases he : s.eiDelay with
  | true =>
    rw [step_past_arbitration (.inl he)]
    exact fetchAndRun_completes hu
  | false =>
    cases hsrc : arbitrate s with
    | none =>
      rw [step_past_arbitration (.inr hsrc)]
      exact fetchAndRun_completes hu
    | some src =>
      rw [step_enter he hsrc]
      exact enter_completes src ha

end Sys2Proof.Machine

namespace Sys2Proof.Claims

open Sys2Proof Sys2Proof.Machine

/-- Settles O44, one equation for each constructor. -/
theorem execAlwaysCompletes : Obligations.ExecAlwaysCompletes := by
  unfold Obligations.ExecAlwaysCompletes
  exact exec_completes

/-- Settles O45: a step completes under HARDWARE with an admitted acknowledge, and keeps both. -/
theorem runsNeverStop : Obligations.RunsNeverStop := by
  unfold Obligations.RunsNeverStop
  intro n s hu ha
  refine runsSafely_of (P := fun s => s.cfg.undoc = .hardware ∧ s.AcknowledgeAdmitted) ?_ n s
    ⟨hu, ha⟩
  rintro s ⟨hu, ha⟩
  obtain ⟨t, ht⟩ := step_completes hu ha
  have hkeeps := step_keeps ht
  exact ⟨t, ht, by rwa [hkeeps.cfg], by rwa [State.AcknowledgeAdmitted, hkeeps.inta]⟩

/-- Settles O55: of the things a step can do, idling and fetching do not leave HALT; with no source
to take the step is the idle one, which leaves the whole state. -/
theorem haltIsLeftOnlyByAnEntry : Obligations.HaltIsLeftOnlyByAnEntry := by
  unfold Obligations.HaltIsLeftOnlyByAnEntry
  refine ⟨fun s t hhalt h hleft => ?_, fun s hhalt he ha => ?_⟩
  · obtain ⟨src, he, ha, hent⟩ | ⟨-, -, rfl⟩ | ⟨-, hrun, -⟩ := step_cases h
    · exact ⟨he, src, ha, hent⟩
    · exact absurd (hhalt.symm.trans hleft) (by decide)
    · exact absurd (hhalt.symm.trans hrun) (by decide)
  · have hidle := step_idle he ha hhalt
    exact ⟨core_run_fixed hidle, run_fixed hidle⟩

end Sys2Proof.Claims
end

section
/-!
SUPPORT. A fetch in plain RAM (00_scope.md R13, 10_state.md R38): byte after byte from PC, and the
instruction the decoder reads there.
-/

namespace Sys2Proof.Claims

open Sys2Proof Sys2Proof.Machine

/-! ### The bytes fetched -/

/-- The state in which the first n bytes at PC have been fetched. -/
def afterBytes (s : State) (n : Nat) : State :=
  { s with pc := s.pc + BitVec.ofNat 16 n, events := fetchEvents s n ++ s.events }

theorem afterBytes_zero (s : State) : afterBytes s 0 = s := by
  simp [afterBytes, fetchEvents]

theorem fetchEvents_succ (s : State) (n : Nat) :
    fetchEvents s (n + 1) =
      .memRead (s.pc + BitVec.ofNat 16 n) (codeByte s n) :: fetchEvents s n := by
  simp [fetchEvents, List.range_succ]

theorem fetch8_afterBytes {s : State} {n : Nat}
    (h : s.cfg.isDevice (s.pc + BitVec.ofNat 16 n) = false) :
    fetch8 (afterBytes s n) = (codeByte s n, afterBytes s (n + 1)) := by
  rw [fetch8_ram (s := afterBytes s n) h]
  simp only [afterBytes, fetchEvents_succ, codeByte, BitVec.ofNat_add, BitVec.add_assoc,
    List.cons_append]

/-- The 16-bit operand is staged in the scratch pair. -/
theorem fetch16_afterBytes {s : State} (h : CodeIsRam s) :
    fetch16 (afterBytes s 1) = (Word.of (codeByte s 2) (codeByte s 1),
      { afterBytes s 3 with w := codeByte s 2, z := codeByte s 1 }) := by
  simp only [fetch16, fetch8_afterBytes (h 1 (by decide)), fetch8_afterBytes (h 2 (by decide))]

/-! ### The instruction fetched -/

/-- In plain RAM the step fetches what the decoder reads at PC. -/
theorem fetchInstr_of_decode {s : State} {i : Instr} {rest : List Byte} (h : CodeIsRam s)
    (hd : decode s.cfg.variant [codeByte s 0, codeByte s 1, codeByte s 2] = .ok (i, rest)) :
    fetchInstr s = (i, { s with
      pc := s.pc + BitVec.ofNat 16 (3 - rest.length)
      w := if rest = [] then codeByte s 2 else s.w
      z := if rest = [] then codeByte s 1 else s.z
      events := fetchEvents s (3 - rest.length) ++ s.events }) := by
  have hop : fetch8 s = (codeByte s 0, afterBytes s 1) := by
    have h0 := fetch8_afterBytes (h 0 (by decide))
    rwa [afterBytes_zero] at h0
  have hlo : fetch8 (afterBytes s 1) = (codeByte s 1, afterBytes s 2) :=
    fetch8_afterBytes (h 1 (by decide))
  cases hlen : opLength s.cfg.variant (codeByte s 0) with
  | one =>
    simp only [decode, hlen] at hd
    cases hd
    rw [fetchInstr_one (by rw [hop, hlen]), hop]
    rfl
  | two =>
    simp only [decode, hlen] at hd
    cases hd
    rw [fetchInstr_two (by rw [hop, hlen]), hop, hlo]
    rfl
  | three =>
    simp only [decode, hlen] at hd
    cases hd
    rw [fetchInstr_three (by rw [hop, hlen]), hop, fetch16_afterBytes h, hi_of, lo_of]
    rfl

/-- Settles O11: a step that fetches does so in the state with the grace flag spent and a fresh
STATUS, and runs what the decoder reads. -/
theorem stepRunsTheDecodedInstruction : Obligations.StepRunsTheDecodedInstruction := by
  unfold Obligations.StepRunsTheDecodedInstruction
  intro s i rest hfetch hram hd hok
  have hinstr := fetchInstr_of_decode (s := fetchState s) hram hd
  rw [step_of_fetches hfetch, hinstr, if_neg (Bool.eq_false_iff.1 hok)]
  rfl

end Sys2Proof.Claims
end

section
/-!
SUPPORT. Interrupts (60_exceptions.md): the input lines with their edge latches (R452 to R454), the
order of arbitration (R458), the entries (R460 to R466) and the grace period (R459).
-/

namespace Sys2Proof.Machine

/-! ### Input lines -/

/-- A line the variant has takes the levels 0 and 1. -/
theorem setInput_next {line : Source} {s : State} {level : Nat}
    (hp : linePresent s.cfg.variant line = true) (hl : level ≤ 1) :
    setInput line level s = .next (driveLine line (decide (level = 1)) s) := by
  obtain rfl | rfl := Nat.le_one_iff_eq_zero_or_eq_one.1 hl <;> exact if_pos hp

/-- Any other level is refused. -/
theorem setInput_refused_of_level (line : Source) (s : State) {level : Nat} (hl : 1 < level) :
    setInput line level s = .refused .invalidInputLine := by
  obtain ⟨n, rfl⟩ := Nat.exists_eq_add_of_le' hl
  exact ite_self _

/-- So is a line the variant lacks. -/
theorem setInput_refused_of_absent {line : Source} {s : State} (level : Nat)
    (hp : linePresent s.cfg.variant line = false) :
    setInput line level s = .refused .invalidInputLine :=
  if_neg (Bool.eq_false_iff.1 hp)

/-- An accepted call drives the line to the level given. -/
theorem driveLine_of_setInput {line : Source} {level : Nat} {s t : State}
    (h : setInput line level s = .next t) : t = driveLine line (decide (level = 1)) s := by
  obtain ⟨hp, -⟩ := setInput_cases h
  obtain hl | hl := Nat.lt_or_ge 1 level
  · rw [setInput_refused_of_level line s hl] at h
    cases h
  · rw [setInput_next hp hl] at h
    injection h with h
    exact h.symm

/-- An edge latch after its line is driven (R453, R454). -/
theorem latch_or_edge (latch line level : Bool) :
    (latch || (!line && level)) = if line = false ∧ level = true then true else latch := by
  cases latch <;> cases line <;> cases level <;> rfl

/-- Only a rising edge of the TRAP line sets TRAPL. -/
theorem driveLine_trapLatch (line : Source) (level : Bool) (s : State) :
    (driveLine line level s).trapLatch =
      (s.trapLatch || decide (line = .trap ∧ s.trapLine = false ∧ level = true)) := by
  cases line with
  | trap => simp [driveLine]
  | rst75 | rst65 | rst55 | intr => simp [driveLine]

/-! ### Arbitration -/

/-- The first of five sources whose condition holds, in the order of R458. -/
def firstSource (trap c75 c65 c55 intr : Bool) : Option Source :=
  if trap then some .trap
  else if c75 then some .rst75
  else if c65 then some .rst65
  else if c55 then some .rst55
  else if intr then some .intr
  else none

theorem firstSource_iff : ∀ trap c75 c65 c55 intr : Bool,
    (firstSource trap c75 c65 c55 intr = some .trap ↔ trap = true) ∧
    (firstSource trap c75 c65 c55 intr = some .rst75 ↔ (trap, c75) = (false, true)) ∧
    (firstSource trap c75 c65 c55 intr = some .rst65 ↔ (trap, c75, c65) = (false, false, true)) ∧
    (firstSource trap c75 c65 c55 intr = some .rst55 ↔
      (trap, c75, c65, c55) = (false, false, false, true)) ∧
    (firstSource trap c75 c65 c55 intr = some .intr ↔
      (trap, c75, c65, c55, intr) = (false, false, false, false, true)) ∧
    (firstSource trap c75 c65 c55 intr = none ↔
      (trap, c75, c65, c55, intr) = (false, false, false, false, false)) := by
  decide

theorem arbitrate_8080 {s : State} (h : s.cfg.variant.is8080 = true) :
    arbitrate s = if s.ie && s.intrLine then some .intr else none :=
  if_pos h

theorem arbitrate_8085 {s : State} (h : s.cfg.variant.is8080 = false) :
    arbitrate s = firstSource s.trapLatch (s.ie && s.p75 && !s.m75)
      (s.ie && s.rst65Line && !s.m65) (s.ie && s.rst55Line && !s.m55) (s.ie && s.intrLine) :=
  if_neg (Bool.eq_false_iff.1 h)

/-- A latched TRAP is selected whatever else is pending. -/
theorem arbitrate_trap {s : State} (hv : s.cfg.variant.is8080 = false) (h : s.trapLatch = true) :
    arbitrate s = some .trap :=
  (arbitrate_8085 hv).trans (if_pos h)

/-! ### The entries -/

theorem synthStatus_frame (s : State) : synthStatus s = { s with
    status := (synthStatus s).status
    draws := s.draws + 1 } := rfl

theorem enter_trap (s : State) :
    enter .trap s = .next { callTo 0x0024#16 { enterCommon s with
      trapImCopy := s.ieIm, trapCopyValid := true } with trapLatch := false } := rfl

/-- The three RST entries, each with its address and what it leaves in P75 (R462 to R464). -/
theorem enter_rst (s : State) :
    ∀ p ∈ [(Source.rst75, 0x003C#16, false), (.rst65, 0x0034#16, s.p75),
      (.rst55, 0x002C#16, s.p75)],
      enter p.1 s = .next { callTo p.2.1 (enterCommon s) with p75 := p.2.2 } :=
  List.forall_mem_cons.2 ⟨rfl, List.forall_mem_cons.2 ⟨rfl, List.forall_mem_singleton.2 rfl⟩⟩

/-! ### The acknowledge of INTR -/

/-- The opcodes of RST n (R465). -/
theorem rstOpcode_iff : ∀ op : Byte,
    op &&& 0xC7#8 = 0xC7#8 ↔ op = 0b11#2 ++ op.extractLsb' 3 3 ++ 0b111#3 := by
  decide

theorem ackTarget_rst : ∀ n : BitVec 3,
    ackTarget [0b11#2 ++ n ++ 0b111#3] = some (BitVec.ofNat 16 (8 * n.toNat)) := by
  decide

theorem ackTarget_call (lo hi : Byte) : ackTarget [0xCD#8, lo, hi] = some (hi ++ lo) := rfl

/-- Only these two forms have a target (R466). -/
theorem form_of_ackTarget {bytes : List Byte} {target : Word} (h : ackTarget bytes = some target) :
    (∃ n : BitVec 3, bytes = [0b11#2 ++ n ++ 0b111#3]) ∨ ∃ lo hi, bytes = [0xCD#8, lo, hi] := by
  unfold ackTarget at h
  split at h
  next op =>
    split at h
    next hop => exact .inl ⟨_, congrArg (fun x => [x]) ((rstOpcode_iff op).1 hop)⟩
    next => cases h
  next op lo hi =>
    split at h
    next hop => exact .inr ⟨lo, hi, by rw [hop]⟩
    next => cases h
  next => cases h

end Sys2Proof.Machine

namespace Sys2Proof.Claims

open Sys2Proof Sys2Proof.Machine

/-! ### Lines and arbitration -/

/-- Settles O57: an accepted call is `driveLine`, whose latches are set by the edge. -/
theorem setInputLines : Obligations.SetInputLines := by
  unfold Obligations.SetInputLines
  refine fun s level => ⟨fun hl => setInput_next rfl hl, fun hl hv => ?_, fun line h => ?_⟩
  · have present (line : Source) : linePresent s.cfg.variant line = true := by
      rw [hv]
      cases line <;> rfl
    refine ⟨setInput_next (present _) hl, setInput_next (present _) hl, ?_, ?_⟩
    · rw [setInput_next (present _) hl, driveLine, latch_or_edge]
      simp only [decide_eq_true_eq]
    · rw [setInput_next (present _) hl, driveLine, latch_or_edge]
      simp only [decide_eq_true_eq]
  · obtain hl | ⟨hv, hline⟩ := h
    · exact setInput_refused_of_level line s hl
    · refine setInput_refused_of_absent level ?_
      have h8080 := (is8080_iff _).2 hv
      cases line with
      | intr => exact absurd rfl hline
      | trap | rst75 | rst65 | rst55 => simp only [linePresent, h8080, Bool.not_true]

/-- Settles O50: on the I8085A arbitration is `firstSource` of the conditions of R458. -/
theorem arbitrationPriority : Obligations.ArbitrationPriority := by
  unfold Obligations.ArbitrationPriority
  refine fun s => ⟨_, _, _, _, rfl, rfl, rfl, rfl, fun hv => ?_, fun hv => ?_⟩
  · exact arbitrate_8080 ((is8080_iff _).2 hv)
  · rw [arbitrate_8085 ((not_is8080_iff _).2 hv)]
    exact firstSource_iff ..

/-! ### The entries -/

/-- A state whose memory is what the push of an entry left. -/
theorem stored2_entered {s t : State}
    (ht : t.mem = (push16 (enterCommon (synthStatus s)).pc (enterCommon (synthStatus s))).mem) :
    Stored2 s t (s.sp - 2#16) s.pc := by
  have hpc : (enterCommon (synthStatus s)).pc = s.pc := by rw [enterCommon_frame, synthStatus_frame]
  rw [hpc] at ht
  refine stored2_push16 ?_ ?_ ?_ ht
  all_goals rw [enterCommon_frame, synthStatus_frame]

/-- Settles O51: the entry is a call to 0x0024 after the common part. -/
theorem trapEntry : Obligations.TrapEntry := by
  unfold Obligations.TrapEntry
  intro s hv he htrap
  have hstep := step_enter he (arbitrate_trap ((not_is8080_iff _).2 hv) htrap)
  refine ⟨_, hstep.trans (enter_trap (synthStatus s)), stored2_entered rfl, ?_⟩
  rw [callTo_frame, enterCommon_frame, synthStatus_frame]

/-- Settles O52: each entry is a call after the common part, with P75 as listed. -/
theorem rstEntries : Obligations.RstEntries := by
  unfold Obligations.RstEntries
  intro s he p hp ha
  refine ⟨_, (step_enter he ha).trans (enter_rst (synthStatus s) p hp),
    stored2_entered rfl, ?_⟩
  rw [callTo_frame, enterCommon_frame, synthStatus_frame]

/-- Settles O53: the entry is a call to the target of the acknowledge, which the two admitted
forms have and no other. -/
theorem intrEntry : Obligations.IntrEntry := by
  unfold Obligations.IntrEntry
  intro s he ha
  rw [step_enter he ha]
  refine ⟨fun hnone => enter_intr_noAcknowledge (s := synthStatus s) hnone,
    fun bytes hbytes hrst hcall => ?_, fun bytes target hbytes hform => ?_⟩
  · refine enter_intr_unsupported (s := synthStatus s) hbytes
      (Option.eq_none_iff_forall_not_mem.2 fun target htarget => ?_)
    obtain ⟨n, hn⟩ | ⟨lo, hi, h⟩ := form_of_ackTarget htarget
    · exact hrst n hn
    · exact hcall lo hi h
  · have htarget : ackTarget bytes = some target := by
      obtain ⟨n, rfl, rfl⟩ | ⟨lo, hi, rfl, rfl⟩ := hform
      · exact ackTarget_rst n
      · exact ackTarget_call lo hi
    refine ⟨_, enter_intr_next (s := synthStatus s) hbytes htarget,
      stored2_entered rfl, ?_⟩
    rw [callTo_frame, State.log, enterCommon_frame, synthStatus_frame]

/-- Settles O56: no step sets TRAPL; while it is set, its entry is the step and clears it; a call of
`execute_set_input` sets it only by a rising edge. -/
theorem trapIsServicedOncePerEdge : Obligations.TrapIsServicedOncePerEdge := by
  unfold Obligations.TrapIsServicedOncePerEdge
  refine ⟨fun n s t hs h => ?_, fun s t hv htrap he h => ?_, fun line level s t h => ?_⟩
  · exact core_run_keeps (P := fun s => s.trapLatch = false)
      (fun _ _ hs h => (step_keeps h).trapLatch hs) n s t hs h
  · obtain ⟨u, hu, -, hframe⟩ := trapEntry s hv he htrap
    obtain rfl : u = t := Host.Outcome.next.inj (hu.symm.trans h)
    rw [hframe]
    exact ⟨rfl, rfl⟩
  · rw [driveLine_of_setInput h, driveLine_trapLatch]
    simp only [decide_eq_true_eq]

/-! ### The grace period -/

/-- Settles O54: with the grace flag set the step is the part past the arbitration point, and only
EI sets the flag again. -/
theorem gracePeriod : Obligations.GracePeriod := by
  unfold Obligations.GracePeriod
  intro s he
  refine ⟨fun hhalt => ?_, fun hrun => ⟨_, _, rfl, fun hhardware => ?_, fun hrefused => ?_,
    fun hruns => ?_⟩⟩
  · rw [step_past_arbitration (.inl he)]
    exact if_pos hhalt
  · exact refusesOpcode_hardware hhardware _
  · exact (step_of_fetches ⟨hrun, .inl he⟩).trans (if_pos hrefused)
  · obtain ⟨t, ht⟩ := exec_completes (fetchInstr (fetchState s)).1 (fetchInstr (fetchState s)).2
    have hstep := (step_of_fetches ⟨hrun, .inl he⟩).trans (if_neg (Bool.eq_false_iff.1 hruns))
    refine ⟨t, hstep.trans ht, ht, fun hei => ?_⟩
    rw [exec_eiDelay ht hei, fetchInstr_frame]
    rfl

end Sys2Proof.Claims
end

section
/-!
SUPPORT. The decoder and the encoder undo each other (30_encoding.md sections 1 and 2). An opcode
byte with its operand encodes back to itself, by the fields xx yyy zzz of the opcode; an instruction
decodes back to itself, by its constructor and fields.
-/

namespace Sys2Proof.Claims

open Sys2Proof Sys2Proof.Machine

/-! ### The fields of an opcode byte -/

/-- The eight values of a field yyy or zzz. -/
theorem field_cases {P : BitVec 3 → Prop} (y : BitVec 3) (zero : P 0#3) (one : P 1#3)
    (two : P 2#3) (three : P 3#3) (four : P 4#3) (five : P 5#3) (six : P 6#3) (seven : P 7#3) :
    P y := by
  have values : ∀ y : BitVec 3, y = 0 ∨ y = 1 ∨ y = 2 ∨ y = 3 ∨ y = 4 ∨ y = 5 ∨ y = 6 ∨ y = 7 := by
    decide
  obtain rfl | rfl | rfl | rfl | rfl | rfl | rfl | rfl := values y <;> assumption

/-- The four values of a field xx or dd. -/
theorem field2_values : ∀ x : BitVec 2, x = 0 ∨ x = 1 ∨ x = 2 ∨ x = 3 := by
  decide

theorem opXYZ_fields : ∀ op : Byte,
    opXYZ (op.extractLsb' 6 2) (op.extractLsb' 3 3) (op.extractLsb' 0 3) = op := by
  decide

/-! ### Encoding what was decoded -/

/-- The instruction is one of the variant, and its encoding is the opcode with as many bytes of the
operand as the opcode says. -/
def Encodes (v : Variant) (op : Byte) (x : Word) (i : Instr) : Prop :=
  i.wf v = true ∧ encode i = (bytes3 op x).take (opLength v op).toNat

section
variable (v : Variant) (y z : BitVec 3) (x : Word)

theorem encodes_decode00 :
    Encodes v (opXYZ 0#2 y z) x (decode00 v y z (Word.lo x) (Word.hi x)) := by
  unfold decode00
  rw [word_of_hi_lo]
  cases v <;> cases z using field_cases <;> cases y using field_cases <;> exact ⟨rfl, rfl⟩

theorem encodes_decode01 : Encodes v (opXYZ 1#2 y z) x (decode01 y z) := by
  cases v <;> cases z using field_cases <;> cases y using field_cases <;> exact ⟨rfl, rfl⟩

theorem encodes_decode10 : Encodes v (opXYZ 2#2 y z) x (decode10 y z) := by
  cases v <;> cases z using field_cases <;> cases y using field_cases <;> exact ⟨rfl, rfl⟩

theorem encodes_decode11 :
    Encodes v (opXYZ 3#2 y z) x (decode11 v y z (Word.lo x) (Word.hi x)) := by
  unfold decode11 decodeMiscRow
  rw [word_of_hi_lo]
  cases v <;> cases z using field_cases <;> cases y using field_cases <;> exact ⟨rfl, rfl⟩

theorem encodes_decodeOp (op : Byte) :
    Encodes v op x (decodeOp v op (Word.lo x) (Word.hi x)) := by
  have fields := opXYZ_fields op
  unfold decodeOp
  generalize op.extractLsb' 6 2 = f, op.extractLsb' 3 3 = y, op.extractLsb' 0 3 = z at *
  subst fields
  obtain rfl | rfl | rfl | rfl := field2_values f
  · exact encodes_decode00 v y z x
  · exact encodes_decode01 v y z x
  · exact encodes_decode10 v y z x
  · exact encodes_decode11 v y z x

end

/-! ### The decoder over a list of bytes -/

section
variable {v : Variant} {i : Instr} {op lo : Byte} {rest : List Byte}

theorem decode_of_one (hlen : opLength v op = .one) (hop : decodeOp v op 0#8 0#8 = i) :
    decode v (op :: rest) = .ok (i, rest) := by
  simp only [decode, hlen, hop]

theorem decode_of_two (hlen : opLength v op = .two) (hop : decodeOp v op lo 0#8 = i) :
    decode v (op :: lo :: rest) = .ok (i, rest) := by
  simp only [decode, hlen, hop]

/-- An instruction with an operand of two bytes. -/
theorem decode_of_three {f : Word → Instr} {x : Word} (hlen : opLength v op = .three)
    (hop : decodeOp v op (Word.lo x) (Word.hi x) = f (Word.of (Word.hi x) (Word.lo x))) :
    decode v (bytes3 op x ++ rest) = .ok (f x, rest) := by
  rw [word_of_hi_lo] at hop
  show decode v (op :: Word.lo x :: Word.hi x :: rest) = _
  simp only [decode, hlen, hop]

/-- What the decoder reads is the instruction of the first byte and of as many operand bytes as it
asks for. -/
theorem decode_cases {bs : List Byte} (h : decode v bs = .ok (i, rest)) :
    ∃ op lo hi, i = decodeOp v op lo hi ∧ bs = [op, lo, hi].take (opLength v op).toNat ++ rest := by
  unfold decode at h
  split at h
  · cases h
  split at h
  case h_1 hlen | h_2 hlen | h_4 hlen =>
    cases h
    exact ⟨_, _, _, rfl, by rw [hlen]; rfl⟩
  all_goals cases h

end

/-- Settles O7: what is read is the instruction of an opcode and its operand, and encodes back to
them. -/
theorem encodeOfDecode : Obligations.EncodeOfDecode := by
  unfold Obligations.EncodeOfDecode
  intro v bs rest i h
  obtain ⟨op, lo, hi, rfl, rfl⟩ := decode_cases h
  obtain ⟨hwf, henc⟩ := encodes_decodeOp v (Word.of hi lo) op
  rw [bytes3, lo_of, hi_of] at henc
  rw [lo_of, hi_of] at hwf
  exact ⟨hwf, congrArg (· ++ rest) henc⟩

/-! ### Decoding an encoding -/

theorem decode_encode {v : Variant} {i : Instr} (h : i.wf v = true) (rest : List Byte) :
    decode v (encode i ++ rest) = .ok (i, rest) := by
  cases i with
  | xchg | addM | adcM | subM | sbbM | inrM | dcrM | daa | anaM | xraM | oraM | cmpM | rlc | rrc
  | ral | rar | cma | cmc | stc | ret | rnz | rz | rnc | rc | rpo | rpe | rp | rm | pchl
  | pushPsw | popPsw | xthl | sphl | ei | di | hlt | nop => cases v <;> exact decode_of_one rfl rfl
  | mviM | adi | aci | sui | sbi | ani | xri | ori | cpi | inPort | outPort =>
    exact decode_of_two rfl rfl
  | lda | sta | lhld | shld | jmp | jnz | jz | jnc | jc | jpo | jpe | jp | jm | call | cnz | cz | cnc
  | cc | cpo | cpe | cp | cm => exact decode_of_three rfl rfl
  | movRR dst src => cases v <;> cases dst <;> cases src <;> exact decode_of_one rfl rfl
  | movRM r | movMR r | addR r | adcR r | subR r | sbbR r | inrR r | dcrR r | anaR r
  | xraR r | oraR r | cmpR r => cases v <;> cases r <;> exact decode_of_one rfl rfl
  | mviR r => cases r <;> exact decode_of_two rfl rfl
  | lxi rp => cases rp <;> exact decode_of_three rfl rfl
  | inx rp | dcx rp | dad rp | ldax rp | stax rp | push rp | pop rp =>
    cases v <;> cases rp <;> exact decode_of_one rfl rfl
  | rst n => cases v <;> cases n using field_cases <;> exact decode_of_one rfl rfl
  | rim | sim | dsub | arhl | rdel | rstv | shlx | lhlx =>
    cases v
    case i8085a => exact decode_of_one rfl rfl
    all_goals cases h
  | ldhi | ldsi =>
    cases v
    case i8085a => exact decode_of_two rfl rfl
    all_goals cases h
  | jnk | jk =>
    cases v
    case i8085a => exact decode_of_three rfl rfl
    all_goals cases h
  | retAlias =>
    cases v
    case i8085a => cases h
    all_goals exact decode_of_one rfl rfl
  | jmpAlias =>
    cases v
    case i8085a => cases h
    all_goals exact decode_of_three rfl rfl
  | nopAlias ccc =>
    cases v
    case i8085a => cases h
    all_goals
      cases ccc using field_cases
      case zero => cases h
      all_goals exact decode_of_one rfl rfl
  | callAlias dd =>
    cases v
    case i8085a => cases h
    all_goals
      obtain rfl | rfl | rfl | rfl := field2_values dd
      · cases h
      all_goals exact decode_of_three rfl rfl

/-- Settles O6: by the constructor, whose opcode is known but for its fields. -/
theorem decodeOfEncode : Obligations.DecodeOfEncode := by
  unfold Obligations.DecodeOfEncode
  exact fun _ _ rest h => decode_encode h rest

/-- Settles O10: the words are literals, which the decoder computes on. -/
theorem sampleWordsDecode : Obligations.SampleWordsDecode := by
  unfold Obligations.SampleWordsDecode
  exact ⟨rfl, rfl, rfl, rfl, rfl, rfl, rfl, rfl, rfl, rfl, rfl, rfl, rfl, rfl, rfl, rfl⟩

end Sys2Proof.Claims
end

section
/-!
SUPPORT. The reset operation (70_reset_and_hazards.md R520), which instructions write the control
state (10_state.md sections 4 and 5), and DAA after an addition of decimal digits
(41_arithmetic.md section 5).
-/

namespace Sys2Proof.Claims

open Sys2Proof Sys2Proof.Machine

/-! ### Reset -/

/-- F after a reset: the draw on the I8085A; on the 8080 variants R35 fixes three bits of it. -/
theorem forceF_bits (v : Variant) (f : Byte) :
    (v = .i8085a → forceF v f = f) ∧
    (v ≠ .i8085a →
      (forceF v f).getLsbD 5 = false ∧ (forceF v f).getLsbD 3 = false ∧
      (forceF v f).getLsbD 1 = true ∧
      ∀ k, k < 8 → k ≠ 5 → k ≠ 3 → k ≠ 1 → (forceF v f).getLsbD k = f.getLsbD k) := by
  refine ⟨fun hv => ?_, fun hv => ?_⟩
  · rw [hv]
    rfl
  · rw [forceF, if_pos ((is8080_iff v).2 hv)]
    exact putUndoc_fixed8080 f

/-- Settles O1: what reset writes is the model's text, and F is forced as R35 says. -/
theorem resetOperationValues : Obligations.ResetOperationValues := by
  unfold Obligations.ResetOperationValues
  intro x s
  obtain ⟨h8085, h8080⟩ := forceF_bits s.cfg.variant x.f
  exact ⟨_, rfl, h8085, h8080, rfl⟩

/-- Settles O2: State.reset is written out in the model, and so is what a reset leaves. -/
theorem resetStateIsAReset : Obligations.ResetStateIsAReset := by
  unfold Obligations.ResetStateIsAReset
  exact ⟨rfl, rfl, rfl, rfl, rfl, rfl, rfl, rfl, rfl, rfl, rfl⟩

/-! ### The writers of the control state -/

/-- Settles O48: an instruction writes only registers and memory, but for EI, DI, HLT, RIM and SIM,
of which each names what it writes. -/
theorem controlStateWriters : Obligations.ControlStateWriters := by
  unfold Obligations.ControlStateWriters
  intro i s t he
  obtain h | ⟨rfl, rfl⟩ | ⟨rfl, rfl⟩ | ⟨rfl, rfl⟩ | ⟨rfl, rfl⟩ | ⟨rfl, rfl⟩ := exec_cases he
  · rw [h]
    simp
  · simp [setIE]
  · simp [setIE]
  · simp
  · simp [readMasks, readSid]
  · rw [simMasks_eq, simLatch_eq, simSod_eq]
    simp +contextual

/-! ### Decimal addition -/

/-- DAA after the sum of two decimal bytes and a carry: 6 goes to a low digit above 9, 0x60 to a sum
above 0x99, and the digits are then those of the decimal sum. -/
theorem daa8_add8_bcd {x y : Byte} (hx : IsBcd x) (hy : IsBcd y) (c : Bool) {o r : AluOut}
    (ho : add8 x y c = o) (hr : daa8 o.res o.cy o.ac = r) :
    IsBcd r.res ∧ bcd r.res + 100 * r.cy.toNat = bcd x + bcd y + c.toNat := by
  obtain ⟨hres, hcy, hac⟩ := add8_spec x y c
  rw [ho] at hres hcy hac
  have hc := Bool.toNat_le c
  obtain ⟨hx1, hx0⟩ := hx
  obtain ⟨hy1, hy0⟩ := hy
  have hlow : decide (x.toNat % 16 + y.toNat % 16 + c.toNat > 9) =
      (o.ac || decide (o.res.toNat % 16 > 9)) := by
    rw [hac, hres, ← Bool.decide_or, decide_eq_decide]
    omega
  have hhigh : decide (x.toNat + y.toNat + c.toNat > 0x99) =
      (o.cy || decide (o.res.toNat > 0x99)) := by
    rw [hcy, hres, ← Bool.decide_or, decide_eq_decide]
    omega
  obtain ⟨hr', hrcy, -⟩ := daa8_spec hlow hhigh
  rw [hr] at hr' hrcy
  unfold IsBcd bcd
  rw [hrcy, hr', hres]
  by_cases low : x.toNat % 16 + y.toNat % 16 + c.toNat > 9 <;>
    by_cases high : x.toNat + y.toNat + c.toNat > 0x99 <;>
    simp only [low, high, decide_true, decide_false, Bool.toNat_true, Bool.toNat_false] <;> omega

theorem aluToA_carry (o : AluOut) (s : State) : (aluToA o s).f.getLsbD 0 = o.cy := by
  obtain ⟨-, -, -, -, hCY⟩ := aluToA_flags o s
  exact hCY

/-- Settles O23: ACI is `add8` with CY, DAA reads the carries it left. -/
theorem daaAddsDecimally : Obligations.DaaAddsDecimally := by
  unfold Obligations.DaaAddsDecimally
  intro s v hs hv
  obtain ⟨-, -, hAC, -, hCY⟩ := aluToA_flags (add8 s.a v (flagCY s.f)) s
  have sum := daa8_add8_bcd hs hv (flagCY s.f) rfl rfl
  rw [← hAC, ← hCY] at sum
  obtain ⟨hbcd, hsum⟩ := sum
  refine ⟨_, rfl, hbcd, ?_⟩
  rw [aluToA_carry]
  exact hsum

end Sys2Proof.Claims
end
